-- ==== Sys2Proof/Word.lean ====
section
/-! DEFINITION. The words of the machine: the 32-bit instruction word of the block's one input port (rules R8, R10),
the byte a harness builds a word from (rule R43), and text (rule R12). -/

namespace Sys2Proof

/-- The instruction word `word[31:0]`, bit 31 most significant (rules R8, R10). Every bit is 0 or 1 (rule R142). -/
abbrev Word := BitVec 32

/-- A byte of a harness that reads a word from bytes (rule R43); the block itself has no byte interface. -/
abbrev Byte := BitVec 8

/-- A text string: a finite sequence of characters, character 0 at the left, its length counted in characters
(rule R12). -/
abbrev Text := List Char

end Sys2Proof
end

