-- ==== Sys2Proof/Config.lean ====
section
/-! DEFINITION. What is fixed for the machine and what the spec leaves open as a parameter: the closed vocabularies
(rules R21, R22, R70, R81), the shape of a Format Descriptor (rule R21), and the open parameters `REG_NAME` (rule R9,
decision D10) and `WORD_BYTE_ORDER` (rule R43, decision D13). The third open parameter, `MNEMONIC`, is an argument
of `resolveMnemonic` (Machine/Ports.lean). -/

namespace Sys2Proof

/-- `format_kind`: exactly three values, none of its own for shifts (rule R21). -/
inductive Kind where
  | r
  | i
  | j
deriving DecidableEq, Repr

/-- The selector type `Sel` of the classifier's result and the mux's select (rule R70). -/
inductive Sel where
  | r
  | shift
  | i
  | j
deriving DecidableEq, Repr

/-- The closed vocabulary of eight field names (rule R22). -/
inductive FieldName where
  | op
  | rs
  | rt
  | rd
  | shamt
  | func
  | immediate
  | target
deriving DecidableEq, Repr

/-- The width of each field, in bits (rule R8). A name has one width wherever it occurs (rule R52). -/
def FieldName.width : FieldName → Nat
  | .op => 6
  | .rs => 5
  | .rt => 5
  | .rd => 5
  | .shamt => 5
  | .func => 6
  | .immediate => 16
  | .target => 26

/-- A Format Descriptor (rule R21): its kind, its fields as (name, width) pairs from the most significant field down,
and the order in which operands are rendered. -/
structure FormatDescriptor where
  kind : Kind
  fields : List (FieldName × Nat)
  operandOrder : List FieldName
deriving DecidableEq, Repr

/-- A field's name with its raw value, a bit vector of the field's own width (rule R55): an entry of `FIELDS` and of
`OPERANDS` (rules R95, R96). -/
structure FieldValue where
  name : FieldName
  value : BitVec name.width
deriving DecidableEq, Repr

/-- The values of the harness parameter `WORD_BYTE_ORDER` (rule R43). -/
inductive ByteOrder where
  | big
  | little
deriving DecidableEq, Repr

namespace Config

/-- The default of `WORD_BYTE_ORDER` (rules R9, R43). -/
def defaultByteOrder : ByteOrder := .big

/-- The register names by code, as a list indexed by the code; none for an unnamed code or a code past the end. -/
def nameAt (names : List (Option Text)) (code : Nat) : Option Text := names.getD code none

/-- There are 32 register codes (rule R8). -/
def has32Codes (names : List (Option Text)) : Bool := names.length == 32

/-- Code 29 is `sp`; codes 26 and 27 are unnamed (rules R9, R34). -/
def sourceNamesKept (names : List (Option Text)) : Bool :=
  nameAt names 29 == some ['s', 'p'] && nameAt names 26 == none && nameAt names 27 == none

/-- Every code but 26 and 27 has a name (rules R9, R34). -/
def othersNamed (names : List (Option Text)) : Bool :=
  (List.range 32).all fun c => c == 26 || c == 27 || (nameAt names c).isSome

/-- A name is not empty and does not hold the sigil (rule R9). -/
def namesPlain (names : List (Option Text)) : Bool :=
  names.all fun n =>
    match n with
    | none => true
    | some t => !t.isEmpty && !t.contains '$'

/-- Names are pairwise distinct (rule R9). -/
def namesDistinct (names : List (Option Text)) : Bool := decide (names.filterMap id).Nodup

/-- The constraints that rule R9 puts on the open parameter `REG_NAME`. -/
def admissible (names : List (Option Text)) : Bool :=
  has32Codes names && sourceNamesKept names && othersNamed names && namesPlain names && namesDistinct names

/-- PRESUMED (log entry 4): the conventional names of `93_implementation_defined.md` G3, which the spec offers as a
default from general knowledge. Only codes 26, 27 and 29 are the source's. -/
def conventionalNames : List (Option Text) :=
  (["zero", "at", "v0", "v1", "a0", "a1", "a2", "a3", "t0", "t1", "t2", "t3", "t4", "t5", "t6", "t7",
    "s0", "s1", "s2", "s3", "s4", "s5", "s6", "s7", "t8", "t9"].map fun n => some n.toList)
  ++ [none, none] ++ (["gp", "sp", "fp", "ra"].map fun n => some n.toList)

/-- An admissible value of the open parameter `REG_NAME` (rules R9, R34, decision D10). -/
structure RegNameTable where
  names : List (Option Text) := conventionalNames
  ok : admissible names = true := by decide
deriving DecidableEq, Repr, Inhabited

/-- `REG_NAME(c)` (rule R34). -/
def RegNameTable.name (t : RegNameTable) (code : Nat) : Option Text := nameAt t.names code

/-- The default of `REG_NAME` (rule R9), from general knowledge (log entry 4). -/
def defaultRegNames : RegNameTable := {}

/-- FREE VALUE (log entry 4): the register names of this machine. Nothing is known of them but rule R9's
constraints. -/
opaque regNames : RegNameTable

end Config

end Sys2Proof
end

