-- ==== Sys2Proof/Machine/Descriptors.lean ====
section
/-! DEFINITION. The constant table the mux selects from (rule R23), `KIND` (rule R81), and the binary codes of the
enumerated outputs for a realisation that needs wires (rules R22, R92). The table is constant: no operation writes it
(rule R35). -/

namespace Sys2Proof.Machine

/-- `DESC_R` (rule R23). -/
def descR : FormatDescriptor where
  kind := .r
  fields := [(.op, 6), (.rs, 5), (.rt, 5), (.rd, 5), (.shamt, 5), (.func, 6)]
  operandOrder := [.func, .rd, .rs, .rt]

/-- `DESC_SHIFT` (rule R23): of kind R, its operand order without `rd`. -/
def descShift : FormatDescriptor where
  kind := .r
  fields := [(.op, 6), (.rs, 5), (.rt, 5), (.rd, 5), (.shamt, 5), (.func, 6)]
  operandOrder := [.func, .rs, .rt, .shamt]

/-- `DESC_I` (rule R23). -/
def descI : FormatDescriptor where
  kind := .i
  fields := [(.op, 6), (.rs, 5), (.rt, 5), (.immediate, 16)]
  operandOrder := [.op, .rt, .rs, .immediate]

/-- `DESC_J` (rule R23). -/
def descJ : FormatDescriptor where
  kind := .j
  fields := [(.op, 6), (.target, 26)]
  operandOrder := [.op, .target]

/-- `DESC[s]`, the data inputs of the mux by selector (rule R23). -/
def desc : Sel → FormatDescriptor
  | .r => descR
  | .shift => descShift
  | .i => descI
  | .j => descJ

/-- `KIND` (rule R81). -/
def kindOf : Sel → Kind
  | .r => .r
  | .shift => .r
  | .i => .i
  | .j => .j

/-- `sel[1:0]` (rule R92). -/
def selCode : Sel → BitVec 2
  | .r => 0b00#2
  | .shift => 0b01#2
  | .i => 0b10#2
  | .j => 0b11#2

/-- `kind[1:0]`; `0b11` is never driven (rule R92). -/
def kindCode : Kind → BitVec 2
  | .r => 0b00#2
  | .i => 0b01#2
  | .j => 0b10#2

/-- The code of a field name: its position in the vocabulary's list (rule R22). -/
def fieldCode : FieldName → BitVec 3
  | .op => 0#3
  | .rs => 1#3
  | .rt => 2#3
  | .rd => 3#3
  | .shamt => 4#3
  | .func => 5#3
  | .immediate => 6#3
  | .target => 7#3

end Sys2Proof.Machine
end

