-- ==== Sys2Proof/Syntax.lean ====
section
/-! DEFINITION. The instructions: one constructor per row of spec/opcode_table.json (rule R59). A constructor stands
for one classification cell, an opcode and, under opcode 000000, a function code; its arguments are the word's other
fields, in the order of the row's layout (rule R51), each of its own width (rule R55), so that every word is exactly
one instruction. The names are the table's, which are not MIPS mnemonics (rule R59): `rFunc100000` is `R_func_100000`. -/

namespace Sys2Proof

/-- An instruction word, by the row of the opcode table it belongs to. -/
inductive Instr where
  -- Opcode 000000 with a function code of the shift set (rule R72).
  | shiftFunc000000 (rs rt rd shamt : BitVec 5)
  | shiftFunc000010 (rs rt rd shamt : BitVec 5)
  | shiftFunc000011 (rs rt rd shamt : BitVec 5)
  | shiftFunc000100 (rs rt rd shamt : BitVec 5)
  | shiftFunc000110 (rs rt rd shamt : BitVec 5)
  | shiftFunc000111 (rs rt rd shamt : BitVec 5)
  -- Opcode 000000 with any other function code (rule R73).
  | rFunc000001 (rs rt rd shamt : BitVec 5)
  | rFunc000101 (rs rt rd shamt : BitVec 5)
  | rFunc001000 (rs rt rd shamt : BitVec 5)
  | rFunc001001 (rs rt rd shamt : BitVec 5)
  | rFunc001010 (rs rt rd shamt : BitVec 5)
  | rFunc001011 (rs rt rd shamt : BitVec 5)
  | rFunc001100 (rs rt rd shamt : BitVec 5)
  | rFunc001101 (rs rt rd shamt : BitVec 5)
  | rFunc001110 (rs rt rd shamt : BitVec 5)
  | rFunc001111 (rs rt rd shamt : BitVec 5)
  | rFunc010000 (rs rt rd shamt : BitVec 5)
  | rFunc010001 (rs rt rd shamt : BitVec 5)
  | rFunc010010 (rs rt rd shamt : BitVec 5)
  | rFunc010011 (rs rt rd shamt : BitVec 5)
  | rFunc010100 (rs rt rd shamt : BitVec 5)
  | rFunc010101 (rs rt rd shamt : BitVec 5)
  | rFunc010110 (rs rt rd shamt : BitVec 5)
  | rFunc010111 (rs rt rd shamt : BitVec 5)
  | rFunc011000 (rs rt rd shamt : BitVec 5)
  | rFunc011001 (rs rt rd shamt : BitVec 5)
  | rFunc011010 (rs rt rd shamt : BitVec 5)
  | rFunc011011 (rs rt rd shamt : BitVec 5)
  | rFunc011100 (rs rt rd shamt : BitVec 5)
  | rFunc011101 (rs rt rd shamt : BitVec 5)
  | rFunc011110 (rs rt rd shamt : BitVec 5)
  | rFunc011111 (rs rt rd shamt : BitVec 5)
  | rFunc100000 (rs rt rd shamt : BitVec 5)
  | rFunc100001 (rs rt rd shamt : BitVec 5)
  | rFunc100010 (rs rt rd shamt : BitVec 5)
  | rFunc100011 (rs rt rd shamt : BitVec 5)
  | rFunc100100 (rs rt rd shamt : BitVec 5)
  | rFunc100101 (rs rt rd shamt : BitVec 5)
  | rFunc100110 (rs rt rd shamt : BitVec 5)
  | rFunc100111 (rs rt rd shamt : BitVec 5)
  | rFunc101000 (rs rt rd shamt : BitVec 5)
  | rFunc101001 (rs rt rd shamt : BitVec 5)
  | rFunc101010 (rs rt rd shamt : BitVec 5)
  | rFunc101011 (rs rt rd shamt : BitVec 5)
  | rFunc101100 (rs rt rd shamt : BitVec 5)
  | rFunc101101 (rs rt rd shamt : BitVec 5)
  | rFunc101110 (rs rt rd shamt : BitVec 5)
  | rFunc101111 (rs rt rd shamt : BitVec 5)
  | rFunc110000 (rs rt rd shamt : BitVec 5)
  | rFunc110001 (rs rt rd shamt : BitVec 5)
  | rFunc110010 (rs rt rd shamt : BitVec 5)
  | rFunc110011 (rs rt rd shamt : BitVec 5)
  | rFunc110100 (rs rt rd shamt : BitVec 5)
  | rFunc110101 (rs rt rd shamt : BitVec 5)
  | rFunc110110 (rs rt rd shamt : BitVec 5)
  | rFunc110111 (rs rt rd shamt : BitVec 5)
  | rFunc111000 (rs rt rd shamt : BitVec 5)
  | rFunc111001 (rs rt rd shamt : BitVec 5)
  | rFunc111010 (rs rt rd shamt : BitVec 5)
  | rFunc111011 (rs rt rd shamt : BitVec 5)
  | rFunc111100 (rs rt rd shamt : BitVec 5)
  | rFunc111101 (rs rt rd shamt : BitVec 5)
  | rFunc111110 (rs rt rd shamt : BitVec 5)
  | rFunc111111 (rs rt rd shamt : BitVec 5)
  -- Opcodes 000010 and 000011 (rule R74).
  | jOp000010 (target : BitVec 26)
  | jOp000011 (target : BitVec 26)
  -- Every other opcode (rule R75).
  | iOp000001 (rs rt : BitVec 5) (immediate : BitVec 16)
  | iOp000100 (rs rt : BitVec 5) (immediate : BitVec 16)
  | iOp000101 (rs rt : BitVec 5) (immediate : BitVec 16)
  | iOp000110 (rs rt : BitVec 5) (immediate : BitVec 16)
  | iOp000111 (rs rt : BitVec 5) (immediate : BitVec 16)
  | iOp001000 (rs rt : BitVec 5) (immediate : BitVec 16)
  | iOp001001 (rs rt : BitVec 5) (immediate : BitVec 16)
  | iOp001010 (rs rt : BitVec 5) (immediate : BitVec 16)
  | iOp001011 (rs rt : BitVec 5) (immediate : BitVec 16)
  | iOp001100 (rs rt : BitVec 5) (immediate : BitVec 16)
  | iOp001101 (rs rt : BitVec 5) (immediate : BitVec 16)
  | iOp001110 (rs rt : BitVec 5) (immediate : BitVec 16)
  | iOp001111 (rs rt : BitVec 5) (immediate : BitVec 16)
  | iOp010000 (rs rt : BitVec 5) (immediate : BitVec 16)
  | iOp010001 (rs rt : BitVec 5) (immediate : BitVec 16)
  | iOp010010 (rs rt : BitVec 5) (immediate : BitVec 16)
  | iOp010011 (rs rt : BitVec 5) (immediate : BitVec 16)
  | iOp010100 (rs rt : BitVec 5) (immediate : BitVec 16)
  | iOp010101 (rs rt : BitVec 5) (immediate : BitVec 16)
  | iOp010110 (rs rt : BitVec 5) (immediate : BitVec 16)
  | iOp010111 (rs rt : BitVec 5) (immediate : BitVec 16)
  | iOp011000 (rs rt : BitVec 5) (immediate : BitVec 16)
  | iOp011001 (rs rt : BitVec 5) (immediate : BitVec 16)
  | iOp011010 (rs rt : BitVec 5) (immediate : BitVec 16)
  | iOp011011 (rs rt : BitVec 5) (immediate : BitVec 16)
  | iOp011100 (rs rt : BitVec 5) (immediate : BitVec 16)
  | iOp011101 (rs rt : BitVec 5) (immediate : BitVec 16)
  | iOp011110 (rs rt : BitVec 5) (immediate : BitVec 16)
  | iOp011111 (rs rt : BitVec 5) (immediate : BitVec 16)
  | iOp100000 (rs rt : BitVec 5) (immediate : BitVec 16)
  | iOp100001 (rs rt : BitVec 5) (immediate : BitVec 16)
  | iOp100010 (rs rt : BitVec 5) (immediate : BitVec 16)
  | iOp100011 (rs rt : BitVec 5) (immediate : BitVec 16)
  | iOp100100 (rs rt : BitVec 5) (immediate : BitVec 16)
  | iOp100101 (rs rt : BitVec 5) (immediate : BitVec 16)
  | iOp100110 (rs rt : BitVec 5) (immediate : BitVec 16)
  | iOp100111 (rs rt : BitVec 5) (immediate : BitVec 16)
  | iOp101000 (rs rt : BitVec 5) (immediate : BitVec 16)
  | iOp101001 (rs rt : BitVec 5) (immediate : BitVec 16)
  | iOp101010 (rs rt : BitVec 5) (immediate : BitVec 16)
  | iOp101011 (rs rt : BitVec 5) (immediate : BitVec 16)
  | iOp101100 (rs rt : BitVec 5) (immediate : BitVec 16)
  | iOp101101 (rs rt : BitVec 5) (immediate : BitVec 16)
  | iOp101110 (rs rt : BitVec 5) (immediate : BitVec 16)
  | iOp101111 (rs rt : BitVec 5) (immediate : BitVec 16)
  | iOp110000 (rs rt : BitVec 5) (immediate : BitVec 16)
  | iOp110001 (rs rt : BitVec 5) (immediate : BitVec 16)
  | iOp110010 (rs rt : BitVec 5) (immediate : BitVec 16)
  | iOp110011 (rs rt : BitVec 5) (immediate : BitVec 16)
  | iOp110100 (rs rt : BitVec 5) (immediate : BitVec 16)
  | iOp110101 (rs rt : BitVec 5) (immediate : BitVec 16)
  | iOp110110 (rs rt : BitVec 5) (immediate : BitVec 16)
  | iOp110111 (rs rt : BitVec 5) (immediate : BitVec 16)
  | iOp111000 (rs rt : BitVec 5) (immediate : BitVec 16)
  | iOp111001 (rs rt : BitVec 5) (immediate : BitVec 16)
  | iOp111010 (rs rt : BitVec 5) (immediate : BitVec 16)
  | iOp111011 (rs rt : BitVec 5) (immediate : BitVec 16)
  | iOp111100 (rs rt : BitVec 5) (immediate : BitVec 16)
  | iOp111101 (rs rt : BitVec 5) (immediate : BitVec 16)
  | iOp111110 (rs rt : BitVec 5) (immediate : BitVec 16)
  | iOp111111 (rs rt : BitVec 5) (immediate : BitVec 16)
deriving DecidableEq, Repr

end Sys2Proof
end

