-- ==== Sys2Proof/Decode.lean ====
section
/-! DEFINITION. The encoding of the input word: the position of every field (rule R52), the three layouts (rule R51),
the opcode map and the function-code map (rule R58), the decoder, total on words and never refusing one (rule R60), the
encoder, a word built from bytes (rule R43), and the opcode table's rows (rule R59). -/

namespace Sys2Proof

/-! ## Field positions (rule R52) -/

/-- `word[31:26]`. -/
def opOf (w : Word) : BitVec 6 := w.extractLsb' 26 6

/-- `word[25:21]`. -/
def rsOf (w : Word) : BitVec 5 := w.extractLsb' 21 5

/-- `word[20:16]`. -/
def rtOf (w : Word) : BitVec 5 := w.extractLsb' 16 5

/-- `word[15:11]`. -/
def rdOf (w : Word) : BitVec 5 := w.extractLsb' 11 5

/-- `word[10:6]`. -/
def shamtOf (w : Word) : BitVec 5 := w.extractLsb' 6 5

/-- `word[5:0]`. -/
def funcOf (w : Word) : BitVec 6 := w.extractLsb' 0 6

/-- `word[15:0]`, raw: no extension (rule R57). -/
def immediateOf (w : Word) : BitVec 16 := w.extractLsb' 0 16

/-- `word[25:0]`, raw: no shift (rule R57). -/
def targetOf (w : Word) : BitVec 26 := w.extractLsb' 0 26

/-! ## The three layouts (rule R51) -/

/-- The R layout, from the most significant field down. -/
def rLayout (op : BitVec 6) (rs rt rd shamt : BitVec 5) (func : BitVec 6) : Word :=
  (op ++ rs ++ rt ++ rd ++ shamt ++ func : BitVec (6 + 5 + 5 + 5 + 5 + 6))

/-- The I layout. -/
def iLayout (op : BitVec 6) (rs rt : BitVec 5) (immediate : BitVec 16) : Word :=
  (op ++ rs ++ rt ++ immediate : BitVec (6 + 5 + 5 + 16))

/-- The J layout. -/
def jLayout (op : BitVec 6) (target : BitVec 26) : Word :=
  (op ++ target : BitVec (6 + 26))

/-! ## The decoder (rules R58, R60) -/

/-- A row of the R layout: the fields below the opcode and above the function code. -/
def ofRLayout (row : BitVec 5 → BitVec 5 → BitVec 5 → BitVec 5 → Instr) (w : Word) : Instr :=
  row (rsOf w) (rtOf w) (rdOf w) (shamtOf w)

/-- A row of the I layout. -/
def ofILayout (row : BitVec 5 → BitVec 5 → BitVec 16 → Instr) (w : Word) : Instr :=
  row (rsOf w) (rtOf w) (immediateOf w)

/-- A row of the J layout. -/
def ofJLayout (row : BitVec 26 → Instr) (w : Word) : Instr :=
  row (targetOf w)

def funcRows00to15 : List (Word → Instr) := [
  ofRLayout .shiftFunc000000,
  ofRLayout .rFunc000001,
  ofRLayout .shiftFunc000010,
  ofRLayout .shiftFunc000011,
  ofRLayout .shiftFunc000100,
  ofRLayout .rFunc000101,
  ofRLayout .shiftFunc000110,
  ofRLayout .shiftFunc000111,
  ofRLayout .rFunc001000,
  ofRLayout .rFunc001001,
  ofRLayout .rFunc001010,
  ofRLayout .rFunc001011,
  ofRLayout .rFunc001100,
  ofRLayout .rFunc001101,
  ofRLayout .rFunc001110,
  ofRLayout .rFunc001111]

def funcRows16to31 : List (Word → Instr) := [
  ofRLayout .rFunc010000,
  ofRLayout .rFunc010001,
  ofRLayout .rFunc010010,
  ofRLayout .rFunc010011,
  ofRLayout .rFunc010100,
  ofRLayout .rFunc010101,
  ofRLayout .rFunc010110,
  ofRLayout .rFunc010111,
  ofRLayout .rFunc011000,
  ofRLayout .rFunc011001,
  ofRLayout .rFunc011010,
  ofRLayout .rFunc011011,
  ofRLayout .rFunc011100,
  ofRLayout .rFunc011101,
  ofRLayout .rFunc011110,
  ofRLayout .rFunc011111]

def funcRows32to47 : List (Word → Instr) := [
  ofRLayout .rFunc100000,
  ofRLayout .rFunc100001,
  ofRLayout .rFunc100010,
  ofRLayout .rFunc100011,
  ofRLayout .rFunc100100,
  ofRLayout .rFunc100101,
  ofRLayout .rFunc100110,
  ofRLayout .rFunc100111,
  ofRLayout .rFunc101000,
  ofRLayout .rFunc101001,
  ofRLayout .rFunc101010,
  ofRLayout .rFunc101011,
  ofRLayout .rFunc101100,
  ofRLayout .rFunc101101,
  ofRLayout .rFunc101110,
  ofRLayout .rFunc101111]

def funcRows48to63 : List (Word → Instr) := [
  ofRLayout .rFunc110000,
  ofRLayout .rFunc110001,
  ofRLayout .rFunc110010,
  ofRLayout .rFunc110011,
  ofRLayout .rFunc110100,
  ofRLayout .rFunc110101,
  ofRLayout .rFunc110110,
  ofRLayout .rFunc110111,
  ofRLayout .rFunc111000,
  ofRLayout .rFunc111001,
  ofRLayout .rFunc111010,
  ofRLayout .rFunc111011,
  ofRLayout .rFunc111100,
  ofRLayout .rFunc111101,
  ofRLayout .rFunc111110,
  ofRLayout .rFunc111111]

/-- The function-code map under opcode 000000, by function code (rule R58). -/
def funcRows : List (Word → Instr) := funcRows00to15 ++ funcRows16to31 ++ funcRows32to47 ++ funcRows48to63

theorem funcRows_length : funcRows.length = 64 := rfl

/-- The words of opcode 000000, by their function code (rules R72, R73). -/
def decodeRFamily (w : Word) : Instr :=
  (funcRows[(funcOf w).toNat]'(by rw [funcRows_length]; exact (funcOf w).isLt)) w

def opRows00to15 : List (Word → Instr) := [
  decodeRFamily,
  ofILayout .iOp000001,
  ofJLayout .jOp000010,
  ofJLayout .jOp000011,
  ofILayout .iOp000100,
  ofILayout .iOp000101,
  ofILayout .iOp000110,
  ofILayout .iOp000111,
  ofILayout .iOp001000,
  ofILayout .iOp001001,
  ofILayout .iOp001010,
  ofILayout .iOp001011,
  ofILayout .iOp001100,
  ofILayout .iOp001101,
  ofILayout .iOp001110,
  ofILayout .iOp001111]

def opRows16to31 : List (Word → Instr) := [
  ofILayout .iOp010000,
  ofILayout .iOp010001,
  ofILayout .iOp010010,
  ofILayout .iOp010011,
  ofILayout .iOp010100,
  ofILayout .iOp010101,
  ofILayout .iOp010110,
  ofILayout .iOp010111,
  ofILayout .iOp011000,
  ofILayout .iOp011001,
  ofILayout .iOp011010,
  ofILayout .iOp011011,
  ofILayout .iOp011100,
  ofILayout .iOp011101,
  ofILayout .iOp011110,
  ofILayout .iOp011111]

def opRows32to47 : List (Word → Instr) := [
  ofILayout .iOp100000,
  ofILayout .iOp100001,
  ofILayout .iOp100010,
  ofILayout .iOp100011,
  ofILayout .iOp100100,
  ofILayout .iOp100101,
  ofILayout .iOp100110,
  ofILayout .iOp100111,
  ofILayout .iOp101000,
  ofILayout .iOp101001,
  ofILayout .iOp101010,
  ofILayout .iOp101011,
  ofILayout .iOp101100,
  ofILayout .iOp101101,
  ofILayout .iOp101110,
  ofILayout .iOp101111]

def opRows48to63 : List (Word → Instr) := [
  ofILayout .iOp110000,
  ofILayout .iOp110001,
  ofILayout .iOp110010,
  ofILayout .iOp110011,
  ofILayout .iOp110100,
  ofILayout .iOp110101,
  ofILayout .iOp110110,
  ofILayout .iOp110111,
  ofILayout .iOp111000,
  ofILayout .iOp111001,
  ofILayout .iOp111010,
  ofILayout .iOp111011,
  ofILayout .iOp111100,
  ofILayout .iOp111101,
  ofILayout .iOp111110,
  ofILayout .iOp111111]

/-- The opcode map, by opcode (rule R58). -/
def opRows : List (Word → Instr) := opRows00to15 ++ opRows16to31 ++ opRows32to47 ++ opRows48to63

theorem opRows_length : opRows.length = 64 := rfl

/-- The instruction a word is. Total: "A model's decoder for this block is total and never refuses a word"
(rule R60). -/
def decode (w : Word) : Instr :=
  (opRows[(opOf w).toNat]'(by rw [opRows_length]; exact (opOf w).isLt)) w

/-! ## Words from bytes (rule R43): the harness's part, not the block's -/

/-- The word of four bytes at ascending addresses, under `WORD_BYTE_ORDER`. -/
def wordOfBytes : ByteOrder → Byte → Byte → Byte → Byte → Word
  | .big, b0, b1, b2, b3 => (b0 ++ b1 ++ b2 ++ b3 : BitVec (8 + 8 + 8 + 8))
  | .little, b0, b1, b2, b3 => (b3 ++ b2 ++ b1 ++ b0 : BitVec (8 + 8 + 8 + 8))

/-- Why a sequence of bytes holds no instruction word. -/
inductive DecodeRefusal where
  /-- Fewer than four bytes are left, and the block cannot be given part of a word (rule R41). Raised by
  `decodeBytes`. Safe: it refuses. -/
  | fewerThanFourBytes (rest : List Byte)
deriving DecidableEq, Repr

/-- The instruction at the head of a sequence of bytes, with the bytes after it. The one length is 32 bits
(rule R50). -/
def decodeBytes (order : ByteOrder) : List Byte → Except DecodeRefusal (Instr × List Byte)
  | b0 :: b1 :: b2 :: b3 :: rest => .ok (decode (wordOfBytes order b0 b1 b2 b3), rest)
  | rest => .error (.fewerThanFourBytes rest)

/-- The instruction read from a table word: `w` numbered as the opcode table numbers it, which for the one 32-bit word
is the block's own numbering (rules R10, R59). A number that does not fit the bits given is no word (rule R105). -/
def decodeTableWord (nbits w : Nat) : Option Instr :=
  if nbits ≤ 32 ∧ w < 2 ^ nbits then some (decode (BitVec.ofNat 32 w)) else none

/-! ## The encoder -/

/-- The word of an instruction: its row's fixed bits with its fields in their places (rules R51, R59). -/
def encode : Instr → Word
  | .shiftFunc000000 rs rt rd shamt => rLayout 0b000000#6 rs rt rd shamt 0b000000#6
  | .shiftFunc000010 rs rt rd shamt => rLayout 0b000000#6 rs rt rd shamt 0b000010#6
  | .shiftFunc000011 rs rt rd shamt => rLayout 0b000000#6 rs rt rd shamt 0b000011#6
  | .shiftFunc000100 rs rt rd shamt => rLayout 0b000000#6 rs rt rd shamt 0b000100#6
  | .shiftFunc000110 rs rt rd shamt => rLayout 0b000000#6 rs rt rd shamt 0b000110#6
  | .shiftFunc000111 rs rt rd shamt => rLayout 0b000000#6 rs rt rd shamt 0b000111#6
  | .rFunc000001 rs rt rd shamt => rLayout 0b000000#6 rs rt rd shamt 0b000001#6
  | .rFunc000101 rs rt rd shamt => rLayout 0b000000#6 rs rt rd shamt 0b000101#6
  | .rFunc001000 rs rt rd shamt => rLayout 0b000000#6 rs rt rd shamt 0b001000#6
  | .rFunc001001 rs rt rd shamt => rLayout 0b000000#6 rs rt rd shamt 0b001001#6
  | .rFunc001010 rs rt rd shamt => rLayout 0b000000#6 rs rt rd shamt 0b001010#6
  | .rFunc001011 rs rt rd shamt => rLayout 0b000000#6 rs rt rd shamt 0b001011#6
  | .rFunc001100 rs rt rd shamt => rLayout 0b000000#6 rs rt rd shamt 0b001100#6
  | .rFunc001101 rs rt rd shamt => rLayout 0b000000#6 rs rt rd shamt 0b001101#6
  | .rFunc001110 rs rt rd shamt => rLayout 0b000000#6 rs rt rd shamt 0b001110#6
  | .rFunc001111 rs rt rd shamt => rLayout 0b000000#6 rs rt rd shamt 0b001111#6
  | .rFunc010000 rs rt rd shamt => rLayout 0b000000#6 rs rt rd shamt 0b010000#6
  | .rFunc010001 rs rt rd shamt => rLayout 0b000000#6 rs rt rd shamt 0b010001#6
  | .rFunc010010 rs rt rd shamt => rLayout 0b000000#6 rs rt rd shamt 0b010010#6
  | .rFunc010011 rs rt rd shamt => rLayout 0b000000#6 rs rt rd shamt 0b010011#6
  | .rFunc010100 rs rt rd shamt => rLayout 0b000000#6 rs rt rd shamt 0b010100#6
  | .rFunc010101 rs rt rd shamt => rLayout 0b000000#6 rs rt rd shamt 0b010101#6
  | .rFunc010110 rs rt rd shamt => rLayout 0b000000#6 rs rt rd shamt 0b010110#6
  | .rFunc010111 rs rt rd shamt => rLayout 0b000000#6 rs rt rd shamt 0b010111#6
  | .rFunc011000 rs rt rd shamt => rLayout 0b000000#6 rs rt rd shamt 0b011000#6
  | .rFunc011001 rs rt rd shamt => rLayout 0b000000#6 rs rt rd shamt 0b011001#6
  | .rFunc011010 rs rt rd shamt => rLayout 0b000000#6 rs rt rd shamt 0b011010#6
  | .rFunc011011 rs rt rd shamt => rLayout 0b000000#6 rs rt rd shamt 0b011011#6
  | .rFunc011100 rs rt rd shamt => rLayout 0b000000#6 rs rt rd shamt 0b011100#6
  | .rFunc011101 rs rt rd shamt => rLayout 0b000000#6 rs rt rd shamt 0b011101#6
  | .rFunc011110 rs rt rd shamt => rLayout 0b000000#6 rs rt rd shamt 0b011110#6
  | .rFunc011111 rs rt rd shamt => rLayout 0b000000#6 rs rt rd shamt 0b011111#6
  | .rFunc100000 rs rt rd shamt => rLayout 0b000000#6 rs rt rd shamt 0b100000#6
  | .rFunc100001 rs rt rd shamt => rLayout 0b000000#6 rs rt rd shamt 0b100001#6
  | .rFunc100010 rs rt rd shamt => rLayout 0b000000#6 rs rt rd shamt 0b100010#6
  | .rFunc100011 rs rt rd shamt => rLayout 0b000000#6 rs rt rd shamt 0b100011#6
  | .rFunc100100 rs rt rd shamt => rLayout 0b000000#6 rs rt rd shamt 0b100100#6
  | .rFunc100101 rs rt rd shamt => rLayout 0b000000#6 rs rt rd shamt 0b100101#6
  | .rFunc100110 rs rt rd shamt => rLayout 0b000000#6 rs rt rd shamt 0b100110#6
  | .rFunc100111 rs rt rd shamt => rLayout 0b000000#6 rs rt rd shamt 0b100111#6
  | .rFunc101000 rs rt rd shamt => rLayout 0b000000#6 rs rt rd shamt 0b101000#6
  | .rFunc101001 rs rt rd shamt => rLayout 0b000000#6 rs rt rd shamt 0b101001#6
  | .rFunc101010 rs rt rd shamt => rLayout 0b000000#6 rs rt rd shamt 0b101010#6
  | .rFunc101011 rs rt rd shamt => rLayout 0b000000#6 rs rt rd shamt 0b101011#6
  | .rFunc101100 rs rt rd shamt => rLayout 0b000000#6 rs rt rd shamt 0b101100#6
  | .rFunc101101 rs rt rd shamt => rLayout 0b000000#6 rs rt rd shamt 0b101101#6
  | .rFunc101110 rs rt rd shamt => rLayout 0b000000#6 rs rt rd shamt 0b101110#6
  | .rFunc101111 rs rt rd shamt => rLayout 0b000000#6 rs rt rd shamt 0b101111#6
  | .rFunc110000 rs rt rd shamt => rLayout 0b000000#6 rs rt rd shamt 0b110000#6
  | .rFunc110001 rs rt rd shamt => rLayout 0b000000#6 rs rt rd shamt 0b110001#6
  | .rFunc110010 rs rt rd shamt => rLayout 0b000000#6 rs rt rd shamt 0b110010#6
  | .rFunc110011 rs rt rd shamt => rLayout 0b000000#6 rs rt rd shamt 0b110011#6
  | .rFunc110100 rs rt rd shamt => rLayout 0b000000#6 rs rt rd shamt 0b110100#6
  | .rFunc110101 rs rt rd shamt => rLayout 0b000000#6 rs rt rd shamt 0b110101#6
  | .rFunc110110 rs rt rd shamt => rLayout 0b000000#6 rs rt rd shamt 0b110110#6
  | .rFunc110111 rs rt rd shamt => rLayout 0b000000#6 rs rt rd shamt 0b110111#6
  | .rFunc111000 rs rt rd shamt => rLayout 0b000000#6 rs rt rd shamt 0b111000#6
  | .rFunc111001 rs rt rd shamt => rLayout 0b000000#6 rs rt rd shamt 0b111001#6
  | .rFunc111010 rs rt rd shamt => rLayout 0b000000#6 rs rt rd shamt 0b111010#6
  | .rFunc111011 rs rt rd shamt => rLayout 0b000000#6 rs rt rd shamt 0b111011#6
  | .rFunc111100 rs rt rd shamt => rLayout 0b000000#6 rs rt rd shamt 0b111100#6
  | .rFunc111101 rs rt rd shamt => rLayout 0b000000#6 rs rt rd shamt 0b111101#6
  | .rFunc111110 rs rt rd shamt => rLayout 0b000000#6 rs rt rd shamt 0b111110#6
  | .rFunc111111 rs rt rd shamt => rLayout 0b000000#6 rs rt rd shamt 0b111111#6
  | .jOp000010 target => jLayout 0b000010#6 target
  | .jOp000011 target => jLayout 0b000011#6 target
  | .iOp000001 rs rt immediate => iLayout 0b000001#6 rs rt immediate
  | .iOp000100 rs rt immediate => iLayout 0b000100#6 rs rt immediate
  | .iOp000101 rs rt immediate => iLayout 0b000101#6 rs rt immediate
  | .iOp000110 rs rt immediate => iLayout 0b000110#6 rs rt immediate
  | .iOp000111 rs rt immediate => iLayout 0b000111#6 rs rt immediate
  | .iOp001000 rs rt immediate => iLayout 0b001000#6 rs rt immediate
  | .iOp001001 rs rt immediate => iLayout 0b001001#6 rs rt immediate
  | .iOp001010 rs rt immediate => iLayout 0b001010#6 rs rt immediate
  | .iOp001011 rs rt immediate => iLayout 0b001011#6 rs rt immediate
  | .iOp001100 rs rt immediate => iLayout 0b001100#6 rs rt immediate
  | .iOp001101 rs rt immediate => iLayout 0b001101#6 rs rt immediate
  | .iOp001110 rs rt immediate => iLayout 0b001110#6 rs rt immediate
  | .iOp001111 rs rt immediate => iLayout 0b001111#6 rs rt immediate
  | .iOp010000 rs rt immediate => iLayout 0b010000#6 rs rt immediate
  | .iOp010001 rs rt immediate => iLayout 0b010001#6 rs rt immediate
  | .iOp010010 rs rt immediate => iLayout 0b010010#6 rs rt immediate
  | .iOp010011 rs rt immediate => iLayout 0b010011#6 rs rt immediate
  | .iOp010100 rs rt immediate => iLayout 0b010100#6 rs rt immediate
  | .iOp010101 rs rt immediate => iLayout 0b010101#6 rs rt immediate
  | .iOp010110 rs rt immediate => iLayout 0b010110#6 rs rt immediate
  | .iOp010111 rs rt immediate => iLayout 0b010111#6 rs rt immediate
  | .iOp011000 rs rt immediate => iLayout 0b011000#6 rs rt immediate
  | .iOp011001 rs rt immediate => iLayout 0b011001#6 rs rt immediate
  | .iOp011010 rs rt immediate => iLayout 0b011010#6 rs rt immediate
  | .iOp011011 rs rt immediate => iLayout 0b011011#6 rs rt immediate
  | .iOp011100 rs rt immediate => iLayout 0b011100#6 rs rt immediate
  | .iOp011101 rs rt immediate => iLayout 0b011101#6 rs rt immediate
  | .iOp011110 rs rt immediate => iLayout 0b011110#6 rs rt immediate
  | .iOp011111 rs rt immediate => iLayout 0b011111#6 rs rt immediate
  | .iOp100000 rs rt immediate => iLayout 0b100000#6 rs rt immediate
  | .iOp100001 rs rt immediate => iLayout 0b100001#6 rs rt immediate
  | .iOp100010 rs rt immediate => iLayout 0b100010#6 rs rt immediate
  | .iOp100011 rs rt immediate => iLayout 0b100011#6 rs rt immediate
  | .iOp100100 rs rt immediate => iLayout 0b100100#6 rs rt immediate
  | .iOp100101 rs rt immediate => iLayout 0b100101#6 rs rt immediate
  | .iOp100110 rs rt immediate => iLayout 0b100110#6 rs rt immediate
  | .iOp100111 rs rt immediate => iLayout 0b100111#6 rs rt immediate
  | .iOp101000 rs rt immediate => iLayout 0b101000#6 rs rt immediate
  | .iOp101001 rs rt immediate => iLayout 0b101001#6 rs rt immediate
  | .iOp101010 rs rt immediate => iLayout 0b101010#6 rs rt immediate
  | .iOp101011 rs rt immediate => iLayout 0b101011#6 rs rt immediate
  | .iOp101100 rs rt immediate => iLayout 0b101100#6 rs rt immediate
  | .iOp101101 rs rt immediate => iLayout 0b101101#6 rs rt immediate
  | .iOp101110 rs rt immediate => iLayout 0b101110#6 rs rt immediate
  | .iOp101111 rs rt immediate => iLayout 0b101111#6 rs rt immediate
  | .iOp110000 rs rt immediate => iLayout 0b110000#6 rs rt immediate
  | .iOp110001 rs rt immediate => iLayout 0b110001#6 rs rt immediate
  | .iOp110010 rs rt immediate => iLayout 0b110010#6 rs rt immediate
  | .iOp110011 rs rt immediate => iLayout 0b110011#6 rs rt immediate
  | .iOp110100 rs rt immediate => iLayout 0b110100#6 rs rt immediate
  | .iOp110101 rs rt immediate => iLayout 0b110101#6 rs rt immediate
  | .iOp110110 rs rt immediate => iLayout 0b110110#6 rs rt immediate
  | .iOp110111 rs rt immediate => iLayout 0b110111#6 rs rt immediate
  | .iOp111000 rs rt immediate => iLayout 0b111000#6 rs rt immediate
  | .iOp111001 rs rt immediate => iLayout 0b111001#6 rs rt immediate
  | .iOp111010 rs rt immediate => iLayout 0b111010#6 rs rt immediate
  | .iOp111011 rs rt immediate => iLayout 0b111011#6 rs rt immediate
  | .iOp111100 rs rt immediate => iLayout 0b111100#6 rs rt immediate
  | .iOp111101 rs rt immediate => iLayout 0b111101#6 rs rt immediate
  | .iOp111110 rs rt immediate => iLayout 0b111110#6 rs rt immediate
  | .iOp111111 rs rt immediate => iLayout 0b111111#6 rs rt immediate

/-! ## The opcode table (rule R59) -/

/-- A row of the opcode table: a word belongs to it exactly when `(w AND mask) == match`. -/
structure OpcodeRow where
  mnemonic : String
  mask : Word
  pattern : Word
  sel : Sel
deriving DecidableEq, Repr

/-- The word belongs to the row (rule R59). -/
def OpcodeRow.holds (r : OpcodeRow) (w : Word) : Bool := w &&& r.mask == r.pattern

def opcodeTablePart0 : List OpcodeRow := [
  ⟨"SHIFT_func_000000", 0xFC00003F#32, 0x00000000#32, .shift⟩,
  ⟨"R_func_000001", 0xFC00003F#32, 0x00000001#32, .r⟩,
  ⟨"SHIFT_func_000010", 0xFC00003F#32, 0x00000002#32, .shift⟩,
  ⟨"SHIFT_func_000011", 0xFC00003F#32, 0x00000003#32, .shift⟩,
  ⟨"SHIFT_func_000100", 0xFC00003F#32, 0x00000004#32, .shift⟩,
  ⟨"R_func_000101", 0xFC00003F#32, 0x00000005#32, .r⟩,
  ⟨"SHIFT_func_000110", 0xFC00003F#32, 0x00000006#32, .shift⟩,
  ⟨"SHIFT_func_000111", 0xFC00003F#32, 0x00000007#32, .shift⟩,
  ⟨"R_func_001000", 0xFC00003F#32, 0x00000008#32, .r⟩,
  ⟨"R_func_001001", 0xFC00003F#32, 0x00000009#32, .r⟩,
  ⟨"R_func_001010", 0xFC00003F#32, 0x0000000A#32, .r⟩,
  ⟨"R_func_001011", 0xFC00003F#32, 0x0000000B#32, .r⟩,
  ⟨"R_func_001100", 0xFC00003F#32, 0x0000000C#32, .r⟩,
  ⟨"R_func_001101", 0xFC00003F#32, 0x0000000D#32, .r⟩,
  ⟨"R_func_001110", 0xFC00003F#32, 0x0000000E#32, .r⟩,
  ⟨"R_func_001111", 0xFC00003F#32, 0x0000000F#32, .r⟩,
  ⟨"R_func_010000", 0xFC00003F#32, 0x00000010#32, .r⟩,
  ⟨"R_func_010001", 0xFC00003F#32, 0x00000011#32, .r⟩,
  ⟨"R_func_010010", 0xFC00003F#32, 0x00000012#32, .r⟩,
  ⟨"R_func_010011", 0xFC00003F#32, 0x00000013#32, .r⟩,
  ⟨"R_func_010100", 0xFC00003F#32, 0x00000014#32, .r⟩,
  ⟨"R_func_010101", 0xFC00003F#32, 0x00000015#32, .r⟩,
  ⟨"R_func_010110", 0xFC00003F#32, 0x00000016#32, .r⟩,
  ⟨"R_func_010111", 0xFC00003F#32, 0x00000017#32, .r⟩,
  ⟨"R_func_011000", 0xFC00003F#32, 0x00000018#32, .r⟩,
  ⟨"R_func_011001", 0xFC00003F#32, 0x00000019#32, .r⟩,
  ⟨"R_func_011010", 0xFC00003F#32, 0x0000001A#32, .r⟩,
  ⟨"R_func_011011", 0xFC00003F#32, 0x0000001B#32, .r⟩,
  ⟨"R_func_011100", 0xFC00003F#32, 0x0000001C#32, .r⟩,
  ⟨"R_func_011101", 0xFC00003F#32, 0x0000001D#32, .r⟩,
  ⟨"R_func_011110", 0xFC00003F#32, 0x0000001E#32, .r⟩,
  ⟨"R_func_011111", 0xFC00003F#32, 0x0000001F#32, .r⟩]

def opcodeTablePart1 : List OpcodeRow := [
  ⟨"R_func_100000", 0xFC00003F#32, 0x00000020#32, .r⟩,
  ⟨"R_func_100001", 0xFC00003F#32, 0x00000021#32, .r⟩,
  ⟨"R_func_100010", 0xFC00003F#32, 0x00000022#32, .r⟩,
  ⟨"R_func_100011", 0xFC00003F#32, 0x00000023#32, .r⟩,
  ⟨"R_func_100100", 0xFC00003F#32, 0x00000024#32, .r⟩,
  ⟨"R_func_100101", 0xFC00003F#32, 0x00000025#32, .r⟩,
  ⟨"R_func_100110", 0xFC00003F#32, 0x00000026#32, .r⟩,
  ⟨"R_func_100111", 0xFC00003F#32, 0x00000027#32, .r⟩,
  ⟨"R_func_101000", 0xFC00003F#32, 0x00000028#32, .r⟩,
  ⟨"R_func_101001", 0xFC00003F#32, 0x00000029#32, .r⟩,
  ⟨"R_func_101010", 0xFC00003F#32, 0x0000002A#32, .r⟩,
  ⟨"R_func_101011", 0xFC00003F#32, 0x0000002B#32, .r⟩,
  ⟨"R_func_101100", 0xFC00003F#32, 0x0000002C#32, .r⟩,
  ⟨"R_func_101101", 0xFC00003F#32, 0x0000002D#32, .r⟩,
  ⟨"R_func_101110", 0xFC00003F#32, 0x0000002E#32, .r⟩,
  ⟨"R_func_101111", 0xFC00003F#32, 0x0000002F#32, .r⟩,
  ⟨"R_func_110000", 0xFC00003F#32, 0x00000030#32, .r⟩,
  ⟨"R_func_110001", 0xFC00003F#32, 0x00000031#32, .r⟩,
  ⟨"R_func_110010", 0xFC00003F#32, 0x00000032#32, .r⟩,
  ⟨"R_func_110011", 0xFC00003F#32, 0x00000033#32, .r⟩,
  ⟨"R_func_110100", 0xFC00003F#32, 0x00000034#32, .r⟩,
  ⟨"R_func_110101", 0xFC00003F#32, 0x00000035#32, .r⟩,
  ⟨"R_func_110110", 0xFC00003F#32, 0x00000036#32, .r⟩,
  ⟨"R_func_110111", 0xFC00003F#32, 0x00000037#32, .r⟩,
  ⟨"R_func_111000", 0xFC00003F#32, 0x00000038#32, .r⟩,
  ⟨"R_func_111001", 0xFC00003F#32, 0x00000039#32, .r⟩,
  ⟨"R_func_111010", 0xFC00003F#32, 0x0000003A#32, .r⟩,
  ⟨"R_func_111011", 0xFC00003F#32, 0x0000003B#32, .r⟩,
  ⟨"R_func_111100", 0xFC00003F#32, 0x0000003C#32, .r⟩,
  ⟨"R_func_111101", 0xFC00003F#32, 0x0000003D#32, .r⟩,
  ⟨"R_func_111110", 0xFC00003F#32, 0x0000003E#32, .r⟩,
  ⟨"R_func_111111", 0xFC00003F#32, 0x0000003F#32, .r⟩]

def opcodeTablePart2 : List OpcodeRow := [
  ⟨"I_op_000001", 0xFC000000#32, 0x04000000#32, .i⟩,
  ⟨"J_op_000010", 0xFC000000#32, 0x08000000#32, .j⟩,
  ⟨"J_op_000011", 0xFC000000#32, 0x0C000000#32, .j⟩,
  ⟨"I_op_000100", 0xFC000000#32, 0x10000000#32, .i⟩,
  ⟨"I_op_000101", 0xFC000000#32, 0x14000000#32, .i⟩,
  ⟨"I_op_000110", 0xFC000000#32, 0x18000000#32, .i⟩,
  ⟨"I_op_000111", 0xFC000000#32, 0x1C000000#32, .i⟩,
  ⟨"I_op_001000", 0xFC000000#32, 0x20000000#32, .i⟩,
  ⟨"I_op_001001", 0xFC000000#32, 0x24000000#32, .i⟩,
  ⟨"I_op_001010", 0xFC000000#32, 0x28000000#32, .i⟩,
  ⟨"I_op_001011", 0xFC000000#32, 0x2C000000#32, .i⟩,
  ⟨"I_op_001100", 0xFC000000#32, 0x30000000#32, .i⟩,
  ⟨"I_op_001101", 0xFC000000#32, 0x34000000#32, .i⟩,
  ⟨"I_op_001110", 0xFC000000#32, 0x38000000#32, .i⟩,
  ⟨"I_op_001111", 0xFC000000#32, 0x3C000000#32, .i⟩,
  ⟨"I_op_010000", 0xFC000000#32, 0x40000000#32, .i⟩,
  ⟨"I_op_010001", 0xFC000000#32, 0x44000000#32, .i⟩,
  ⟨"I_op_010010", 0xFC000000#32, 0x48000000#32, .i⟩,
  ⟨"I_op_010011", 0xFC000000#32, 0x4C000000#32, .i⟩,
  ⟨"I_op_010100", 0xFC000000#32, 0x50000000#32, .i⟩,
  ⟨"I_op_010101", 0xFC000000#32, 0x54000000#32, .i⟩,
  ⟨"I_op_010110", 0xFC000000#32, 0x58000000#32, .i⟩,
  ⟨"I_op_010111", 0xFC000000#32, 0x5C000000#32, .i⟩,
  ⟨"I_op_011000", 0xFC000000#32, 0x60000000#32, .i⟩,
  ⟨"I_op_011001", 0xFC000000#32, 0x64000000#32, .i⟩,
  ⟨"I_op_011010", 0xFC000000#32, 0x68000000#32, .i⟩,
  ⟨"I_op_011011", 0xFC000000#32, 0x6C000000#32, .i⟩,
  ⟨"I_op_011100", 0xFC000000#32, 0x70000000#32, .i⟩,
  ⟨"I_op_011101", 0xFC000000#32, 0x74000000#32, .i⟩,
  ⟨"I_op_011110", 0xFC000000#32, 0x78000000#32, .i⟩,
  ⟨"I_op_011111", 0xFC000000#32, 0x7C000000#32, .i⟩,
  ⟨"I_op_100000", 0xFC000000#32, 0x80000000#32, .i⟩]

def opcodeTablePart3 : List OpcodeRow := [
  ⟨"I_op_100001", 0xFC000000#32, 0x84000000#32, .i⟩,
  ⟨"I_op_100010", 0xFC000000#32, 0x88000000#32, .i⟩,
  ⟨"I_op_100011", 0xFC000000#32, 0x8C000000#32, .i⟩,
  ⟨"I_op_100100", 0xFC000000#32, 0x90000000#32, .i⟩,
  ⟨"I_op_100101", 0xFC000000#32, 0x94000000#32, .i⟩,
  ⟨"I_op_100110", 0xFC000000#32, 0x98000000#32, .i⟩,
  ⟨"I_op_100111", 0xFC000000#32, 0x9C000000#32, .i⟩,
  ⟨"I_op_101000", 0xFC000000#32, 0xA0000000#32, .i⟩,
  ⟨"I_op_101001", 0xFC000000#32, 0xA4000000#32, .i⟩,
  ⟨"I_op_101010", 0xFC000000#32, 0xA8000000#32, .i⟩,
  ⟨"I_op_101011", 0xFC000000#32, 0xAC000000#32, .i⟩,
  ⟨"I_op_101100", 0xFC000000#32, 0xB0000000#32, .i⟩,
  ⟨"I_op_101101", 0xFC000000#32, 0xB4000000#32, .i⟩,
  ⟨"I_op_101110", 0xFC000000#32, 0xB8000000#32, .i⟩,
  ⟨"I_op_101111", 0xFC000000#32, 0xBC000000#32, .i⟩,
  ⟨"I_op_110000", 0xFC000000#32, 0xC0000000#32, .i⟩,
  ⟨"I_op_110001", 0xFC000000#32, 0xC4000000#32, .i⟩,
  ⟨"I_op_110010", 0xFC000000#32, 0xC8000000#32, .i⟩,
  ⟨"I_op_110011", 0xFC000000#32, 0xCC000000#32, .i⟩,
  ⟨"I_op_110100", 0xFC000000#32, 0xD0000000#32, .i⟩,
  ⟨"I_op_110101", 0xFC000000#32, 0xD4000000#32, .i⟩,
  ⟨"I_op_110110", 0xFC000000#32, 0xD8000000#32, .i⟩,
  ⟨"I_op_110111", 0xFC000000#32, 0xDC000000#32, .i⟩,
  ⟨"I_op_111000", 0xFC000000#32, 0xE0000000#32, .i⟩,
  ⟨"I_op_111001", 0xFC000000#32, 0xE4000000#32, .i⟩,
  ⟨"I_op_111010", 0xFC000000#32, 0xE8000000#32, .i⟩,
  ⟨"I_op_111011", 0xFC000000#32, 0xEC000000#32, .i⟩,
  ⟨"I_op_111100", 0xFC000000#32, 0xF0000000#32, .i⟩,
  ⟨"I_op_111101", 0xFC000000#32, 0xF4000000#32, .i⟩,
  ⟨"I_op_111110", 0xFC000000#32, 0xF8000000#32, .i⟩,
  ⟨"I_op_111111", 0xFC000000#32, 0xFC000000#32, .i⟩]

/-- The 127 rows, in the table's order. -/
def opcodeTable : List OpcodeRow := opcodeTablePart0 ++ opcodeTablePart1 ++ opcodeTablePart2 ++ opcodeTablePart3

/-- The name of an instruction's row. -/
def Instr.mnemonic : Instr → String
  | .shiftFunc000000 _ _ _ _ => "SHIFT_func_000000"
  | .shiftFunc000010 _ _ _ _ => "SHIFT_func_000010"
  | .shiftFunc000011 _ _ _ _ => "SHIFT_func_000011"
  | .shiftFunc000100 _ _ _ _ => "SHIFT_func_000100"
  | .shiftFunc000110 _ _ _ _ => "SHIFT_func_000110"
  | .shiftFunc000111 _ _ _ _ => "SHIFT_func_000111"
  | .rFunc000001 _ _ _ _ => "R_func_000001"
  | .rFunc000101 _ _ _ _ => "R_func_000101"
  | .rFunc001000 _ _ _ _ => "R_func_001000"
  | .rFunc001001 _ _ _ _ => "R_func_001001"
  | .rFunc001010 _ _ _ _ => "R_func_001010"
  | .rFunc001011 _ _ _ _ => "R_func_001011"
  | .rFunc001100 _ _ _ _ => "R_func_001100"
  | .rFunc001101 _ _ _ _ => "R_func_001101"
  | .rFunc001110 _ _ _ _ => "R_func_001110"
  | .rFunc001111 _ _ _ _ => "R_func_001111"
  | .rFunc010000 _ _ _ _ => "R_func_010000"
  | .rFunc010001 _ _ _ _ => "R_func_010001"
  | .rFunc010010 _ _ _ _ => "R_func_010010"
  | .rFunc010011 _ _ _ _ => "R_func_010011"
  | .rFunc010100 _ _ _ _ => "R_func_010100"
  | .rFunc010101 _ _ _ _ => "R_func_010101"
  | .rFunc010110 _ _ _ _ => "R_func_010110"
  | .rFunc010111 _ _ _ _ => "R_func_010111"
  | .rFunc011000 _ _ _ _ => "R_func_011000"
  | .rFunc011001 _ _ _ _ => "R_func_011001"
  | .rFunc011010 _ _ _ _ => "R_func_011010"
  | .rFunc011011 _ _ _ _ => "R_func_011011"
  | .rFunc011100 _ _ _ _ => "R_func_011100"
  | .rFunc011101 _ _ _ _ => "R_func_011101"
  | .rFunc011110 _ _ _ _ => "R_func_011110"
  | .rFunc011111 _ _ _ _ => "R_func_011111"
  | .rFunc100000 _ _ _ _ => "R_func_100000"
  | .rFunc100001 _ _ _ _ => "R_func_100001"
  | .rFunc100010 _ _ _ _ => "R_func_100010"
  | .rFunc100011 _ _ _ _ => "R_func_100011"
  | .rFunc100100 _ _ _ _ => "R_func_100100"
  | .rFunc100101 _ _ _ _ => "R_func_100101"
  | .rFunc100110 _ _ _ _ => "R_func_100110"
  | .rFunc100111 _ _ _ _ => "R_func_100111"
  | .rFunc101000 _ _ _ _ => "R_func_101000"
  | .rFunc101001 _ _ _ _ => "R_func_101001"
  | .rFunc101010 _ _ _ _ => "R_func_101010"
  | .rFunc101011 _ _ _ _ => "R_func_101011"
  | .rFunc101100 _ _ _ _ => "R_func_101100"
  | .rFunc101101 _ _ _ _ => "R_func_101101"
  | .rFunc101110 _ _ _ _ => "R_func_101110"
  | .rFunc101111 _ _ _ _ => "R_func_101111"
  | .rFunc110000 _ _ _ _ => "R_func_110000"
  | .rFunc110001 _ _ _ _ => "R_func_110001"
  | .rFunc110010 _ _ _ _ => "R_func_110010"
  | .rFunc110011 _ _ _ _ => "R_func_110011"
  | .rFunc110100 _ _ _ _ => "R_func_110100"
  | .rFunc110101 _ _ _ _ => "R_func_110101"
  | .rFunc110110 _ _ _ _ => "R_func_110110"
  | .rFunc110111 _ _ _ _ => "R_func_110111"
  | .rFunc111000 _ _ _ _ => "R_func_111000"
  | .rFunc111001 _ _ _ _ => "R_func_111001"
  | .rFunc111010 _ _ _ _ => "R_func_111010"
  | .rFunc111011 _ _ _ _ => "R_func_111011"
  | .rFunc111100 _ _ _ _ => "R_func_111100"
  | .rFunc111101 _ _ _ _ => "R_func_111101"
  | .rFunc111110 _ _ _ _ => "R_func_111110"
  | .rFunc111111 _ _ _ _ => "R_func_111111"
  | .jOp000010 _ => "J_op_000010"
  | .jOp000011 _ => "J_op_000011"
  | .iOp000001 _ _ _ => "I_op_000001"
  | .iOp000100 _ _ _ => "I_op_000100"
  | .iOp000101 _ _ _ => "I_op_000101"
  | .iOp000110 _ _ _ => "I_op_000110"
  | .iOp000111 _ _ _ => "I_op_000111"
  | .iOp001000 _ _ _ => "I_op_001000"
  | .iOp001001 _ _ _ => "I_op_001001"
  | .iOp001010 _ _ _ => "I_op_001010"
  | .iOp001011 _ _ _ => "I_op_001011"
  | .iOp001100 _ _ _ => "I_op_001100"
  | .iOp001101 _ _ _ => "I_op_001101"
  | .iOp001110 _ _ _ => "I_op_001110"
  | .iOp001111 _ _ _ => "I_op_001111"
  | .iOp010000 _ _ _ => "I_op_010000"
  | .iOp010001 _ _ _ => "I_op_010001"
  | .iOp010010 _ _ _ => "I_op_010010"
  | .iOp010011 _ _ _ => "I_op_010011"
  | .iOp010100 _ _ _ => "I_op_010100"
  | .iOp010101 _ _ _ => "I_op_010101"
  | .iOp010110 _ _ _ => "I_op_010110"
  | .iOp010111 _ _ _ => "I_op_010111"
  | .iOp011000 _ _ _ => "I_op_011000"
  | .iOp011001 _ _ _ => "I_op_011001"
  | .iOp011010 _ _ _ => "I_op_011010"
  | .iOp011011 _ _ _ => "I_op_011011"
  | .iOp011100 _ _ _ => "I_op_011100"
  | .iOp011101 _ _ _ => "I_op_011101"
  | .iOp011110 _ _ _ => "I_op_011110"
  | .iOp011111 _ _ _ => "I_op_011111"
  | .iOp100000 _ _ _ => "I_op_100000"
  | .iOp100001 _ _ _ => "I_op_100001"
  | .iOp100010 _ _ _ => "I_op_100010"
  | .iOp100011 _ _ _ => "I_op_100011"
  | .iOp100100 _ _ _ => "I_op_100100"
  | .iOp100101 _ _ _ => "I_op_100101"
  | .iOp100110 _ _ _ => "I_op_100110"
  | .iOp100111 _ _ _ => "I_op_100111"
  | .iOp101000 _ _ _ => "I_op_101000"
  | .iOp101001 _ _ _ => "I_op_101001"
  | .iOp101010 _ _ _ => "I_op_101010"
  | .iOp101011 _ _ _ => "I_op_101011"
  | .iOp101100 _ _ _ => "I_op_101100"
  | .iOp101101 _ _ _ => "I_op_101101"
  | .iOp101110 _ _ _ => "I_op_101110"
  | .iOp101111 _ _ _ => "I_op_101111"
  | .iOp110000 _ _ _ => "I_op_110000"
  | .iOp110001 _ _ _ => "I_op_110001"
  | .iOp110010 _ _ _ => "I_op_110010"
  | .iOp110011 _ _ _ => "I_op_110011"
  | .iOp110100 _ _ _ => "I_op_110100"
  | .iOp110101 _ _ _ => "I_op_110101"
  | .iOp110110 _ _ _ => "I_op_110110"
  | .iOp110111 _ _ _ => "I_op_110111"
  | .iOp111000 _ _ _ => "I_op_111000"
  | .iOp111001 _ _ _ => "I_op_111001"
  | .iOp111010 _ _ _ => "I_op_111010"
  | .iOp111011 _ _ _ => "I_op_111011"
  | .iOp111100 _ _ _ => "I_op_111100"
  | .iOp111101 _ _ _ => "I_op_111101"
  | .iOp111110 _ _ _ => "I_op_111110"
  | .iOp111111 _ _ _ => "I_op_111111"

end Sys2Proof
end

