-- ==== Sys2Proof/Machine/Flags.lean ====
section
/-! DEFINITION. The Boolean values inside one evaluation. The block keeps no flag and no operation writes one
(rule R29): these are intermediate values, as the algorithm makes them (rules R25, R26, R71) and as the gate-level form
makes them (rule R76). -/

namespace Sys2Proof.Machine

/-- `SHIFT_SET`, in the source's order (rule R25). -/
def shiftSet : List (BitVec 6) := [0b000000#6, 0b000100#6, 0b000011#6, 0b000111#6, 0b000010#6, 0b000110#6]

/-- `J_SET` (rule R26). -/
def jSet : List (BitVec 6) := [0b000010#6, 0b000011#6]

/-- `R_FAMILY_OPCODE` (rule R26). -/
def rFamilyOpcode : BitVec 6 := 0b000000#6

/-- The opcode is zero: the block's output `func_valid` too (rules R29, R90). The other Boolean value of rule R29, that
the function code is in the set, is the test `funcOf w ∈ shiftSet` of `classify`. -/
def isRFamily (w : Word) : Bool := opOf w == rFamilyOpcode

/-! ## The gate-level form (rule R76) -/

/-- `is_rfam`. -/
def gateRFamily (w : Word) : Bool := !(w[31] || w[30] || w[29] || w[28] || w[27] || w[26])

/-- `is_j`. -/
def gateJ (w : Word) : Bool := !(w[31] || w[30] || w[29] || w[28]) && w[27]

/-- `low8`. -/
def gateLow8 (w : Word) : Bool := !(w[5] || w[4] || w[3])

/-- `is_shf`. -/
def gateShift (w : Word) : Bool := gateLow8 w && !(!w[1] && w[0])

/-- `sel[1]`. -/
def gateSel1 (w : Word) : Bool := !gateRFamily w

/-- `sel[0]`. -/
def gateSel0 (w : Word) : Bool := (gateRFamily w && gateShift w) || gateJ w

/-- `kind[1]`. -/
def gateKind1 (w : Word) : Bool := gateJ w

/-- `kind[0]`. -/
def gateKind0 (w : Word) : Bool := !gateRFamily w && !gateJ w

end Sys2Proof.Machine
end

