-- ==== Sys2Proof/Machine/Classify.lean ====
section
/-! DEFINITION. The classifier (rule R70), its gate-level form (rule R76), and the dispatch mux (rule R91). Each is a
function of the word alone (rule R20), total (rules R77, R121). -/

namespace Sys2Proof.Machine

/-- `CLASSIFY`: the source's algorithm, step for step (rule R70). -/
def classify (w : Word) : Sel :=
  if opOf w = rFamilyOpcode then
    if funcOf w ∈ shiftSet then .shift else .r
  else if opOf w ∈ jSet then .j
  else .i

/-- `CLASSIFY` by gates (rule R76). -/
def classifyGates (w : Word) : Sel :=
  if gateRFamily w && gateShift w then .shift
  else if gateRFamily w && !gateShift w then .r
  else if gateJ w then .j
  else .i

/-- `DISPATCH` (rule R91). -/
def dispatch (w : Word) : FormatDescriptor := desc (classify w)

end Sys2Proof.Machine
end

