-- ==== Sys2Proof/Machine/Ports.lean ====
section
/-! DEFINITION. The output ports of the block (rule R90) and the keys for the external mnemonic table (rule R93). -/

namespace Sys2Proof.Machine

/-- The output ports (rule R90). -/
structure Outputs where
  sel : Sel
  kind : Kind
  desc : FormatDescriptor
  opcode : BitVec 6
  func : BitVec 6
  funcValid : Bool
deriving DecidableEq, Repr

/-- The outputs the mux and the wires give for a word once its selector is known (rules R90, R91). -/
def portsWith (sel : Sel) (w : Word) : Outputs where
  sel := sel
  kind := kindOf sel
  desc := desc sel
  opcode := opOf w
  func := funcOf w
  funcValid := isRFamily w

/-- The outputs for a word: "at every instant each output is the stated function of the present value of `word`"
(rule R90). -/
def portsOf (w : Word) : Outputs := portsWith (classify w) w

/-- The optional function code handed to the mnemonic table, from the ports (`func_valid`, `func`) (rule R93). -/
def Outputs.functionKey (o : Outputs) : Option (BitVec 6) := if o.funcValid then some o.func else none

/-- What a consumer's table `MNEMONIC` answers for a word. The table is the opaque parameter of rule R9: any function
of the two keys, into any metadata; no rule reads its result (rule R93). -/
def resolveMnemonic {M : Type} (table : BitVec 6 → Option (BitVec 6) → M) (o : Outputs) : M :=
  table o.opcode o.functionKey

end Sys2Proof.Machine
end

