-- ==== Sys2Proof/Machine/State.lean ====
section
/-! DEFINITION. The state, the reasons a step can stop, and reset.

The block holds no mutable state of any kind (rule R20), so no field here is memory inside the block. `word` and `out`
are what its ports carry (rule R90); `pending` and `results` are the MODEL's own and stand for the surroundings: the
words and calls a host will present one after another, and the sequence of results, which is a program's outcome
(rule R146; log entries 1 and 3). -/

namespace Sys2Proof.Machine

/-- The offending input of an `InvalidEncodingLength`: a string or an integer (rule R120). -/
inductive Offender where
  | text (t : Text)
  | integer (n : Int)
deriving DecidableEq, Repr

/-- The three error conditions, each with its payload (rules R120, R126). They are values handed to the caller, not
stops of the machine (rule R124). -/
inductive ErrorCondition where
  | invalidEncodingLength (input : Offender)
  | invalidBitCharacter (input : Text) (index : Nat)
  | unknownRegisterCode (code : Int)
deriving DecidableEq, Repr

/-- A call a host can make: a word on the bus, a word handed over in another form, an adapter, or a helper. -/
inductive Call where
  /-- A word on the input port (rule R90). -/
  | present (w : Word)
  /-- Four bytes at ascending addresses, from a harness (rule R43). -/
  | presentBytes (order : ByteOrder) (b0 b1 b2 b3 : Byte)
  /-- `CLASSIFYTEXT` (rule R103). -/
  | classifyText (t : Text)
  /-- An unbounded integer, converted by `WORDOFNAT` and dispatched (rule R105). -/
  | classifyInteger (n : Int)
  /-- `PARSEWORD` (rule R100). -/
  | parseWord (t : Text)
  /-- `FORMATWORD` (rule R102). -/
  | formatWord (w : Word)
  /-- `WORDOFNAT` (rule R105). -/
  | wordOfNat (n : Int)
  /-- `RENDER` (rule R106). -/
  | render (code : Int)
  /-- `PARSEREG` (rule R108). -/
  | parseReg (t : Text)
  /-- `FIELD` (rule R94). -/
  | field (w : Word) (name : FieldName)
  /-- `FIELDS` (rule R95). -/
  | fields (w : Word)
  /-- `OPERANDS` (rule R96). -/
  | operands (w : Word)
deriving DecidableEq, Repr

/-- What a call gives back: a result or one of the three conditions (rules R124, R146). -/
inductive Result where
  | evaluated (w : Word) (out : Outputs)
  | word (w : Word)
  | text (t : Text)
  | registerCode (c : Option (Fin 32))
  | fieldValues (vs : List FieldValue)
  | raised (e : ErrorCondition)
deriving DecidableEq, Repr

/-- The state. -/
structure State where
  /-- The input port `word` (rule R90). -/
  word : Word
  /-- The output ports `sel`, `kind`, `desc`, `opcode`, `func`, `func_valid` (rule R90). -/
  out : Outputs
  /-- The calls still to be made, first first (rule R146; log entry 1). -/
  pending : List Call
  /-- The results so far, oldest first (rule R146; log entry 3). -/
  results : List Result
deriving DecidableEq, Repr

/-- Faults: none. "The core never raises" (rule R121), and "no evaluation traps, no evaluation fails to terminate"
(rule R127). The three error conditions are results (`Result.raised`), since they return to the caller and leave
nothing behind (rule R124). -/
inductive Fault where
deriving DecidableEq, Repr

/-- Refusals. -/
inductive Refusal where
  /-- The instruction has no meaning in the model. Raised by an arm of `exec` that is not written yet; no arm is such.
  Safe: it stops. -/
  | notModelled (mnemonic : String)
deriving DecidableEq, Repr

/-- The machine after reset. The block has no reset and nothing to reset (rules R35, R140); no word has been presented
and no result read. DESIGN CHOICE (log entry 2): the input port carries the word 0, an input having no reset value. The
outputs are, as always, the function of it (rule R35). -/
def State.reset : State where
  word := 0#32
  out := portsOf 0#32
  pending := []
  results := []

end Sys2Proof.Machine
end

