-- ==== Sys2Proof/Machine/HostAdapters.lean ====
section
/-! DEFINITION. The host adapters (rules R100 to R110): the textual and the integer form of a word, and register
references. Each is a function of its argument and the constant `REG_NAME`, into a result or one of the three error
conditions (rules R110, R124). -/

namespace Sys2Proof.Machine

/-! ## The textual form of a word -/

/-- The only accepted characters are U+0030 and U+0031 (rule R100, decision D9). -/
def isBitChar (c : Char) : Bool := c == '0' || c == '1'

/-- The value of a string read as a binary numeral, most significant character first (rules R42, R101). -/
def numeral (t : Text) : Nat := t.foldl (fun acc c => 2 * acc + (if c = '1' then 1 else 0)) 0

/-- `PARSEWORD` (rule R100): the length first, then the characters from the left (rule R123). -/
def parseWord (t : Text) : Except ErrorCondition Word :=
  if t.length = 32 then
    match t.findIdx? fun c => !isBitChar c with
    | some i => .error (.invalidBitCharacter t i)
    | none => .ok (BitVec.ofNat 32 (numeral t))
  else .error (.invalidEncodingLength (.text t))

/-- `FORMATWORD` (rule R102): character `i` is bit `31 - i`. -/
def formatWord (w : Word) : Text :=
  (List.range 32).map fun i => if w.getLsbD (31 - i) then '1' else '0'

/-- `CLASSIFYTEXT` (rule R103). -/
def classifyText (t : Text) : Except ErrorCondition FormatDescriptor :=
  match parseWord t with
  | .ok w => .ok (dispatch w)
  | .error e => .error e

/-- The substring `t[a,b)`, a half-open range of string indices (rule R11). -/
def substring (t : Text) (a b : Nat) : Text := (t.drop a).take (b - a)

/-- The source's algorithm on an accepted string: the opcode is `t[0,6)` and, when that is six zeros, the function code
is `t[26,32)` (rules R70, R103). -/
def classifySlices (t : Text) : FormatDescriptor :=
  if substring t 0 6 = "000000".toList then
    if substring t 26 32 ∈ ["000000", "000100", "000011", "000111", "000010", "000110"].map String.toList then
      descShift
    else descR
  else if substring t 0 6 ∈ ["000010", "000011"].map String.toList then descJ
  else descI

/-! ## The integer form of a word -/

/-- `WORDOFNAT` (rule R105). -/
def wordOfNat (n : Int) : Except ErrorCondition Word :=
  if n < 0 ∨ n ≥ 2 ^ 32 then .error (.invalidEncodingLength (.integer n)) else .ok (BitVec.ofNat 32 n.toNat)

/-! ## Register references -/

/-- `RENDER` under a name table (rules R106, R107): strict about the reserved codes. -/
def render (t : Config.RegNameTable) (c : Int) : Except ErrorCondition Text :=
  if c < 0 ∨ c > 31 then .error (.unknownRegisterCode c)
  else
    match t.name c.toNat with
    | none => .error (.unknownRegisterCode c)
    | some n => .ok ('$' :: n)

/-- `PARSEREG` under a name table (rule R108): exactly the strings `RENDER` can produce. -/
def parseReg (t : Config.RegNameTable) (text : Text) : Option (Fin 32) :=
  (List.finRange 32).find? fun c =>
    match t.name c.val with
    | none => false
    | some n => text == '$' :: n

/-! ## Error conditions -/

/-- The numeric code of a condition, for a realisation that needs one (rules R120, R126). -/
def ErrorCondition.code : ErrorCondition → Nat
  | .invalidEncodingLength _ => 1
  | .invalidBitCharacter _ _ => 2
  | .unknownRegisterCode _ => 3

end Sys2Proof.Machine
end

