-- ==== Sys2Proof/Machine/Operands.lean ====
section
/-! DEFINITION. Field and operand extraction (rules R94 to R97). Raw bit vectors throughout: nothing is extended,
shifted or added (rule R57). -/

namespace Sys2Proof.Machine

/-- `FIELD` (rule R94): defined for every word and every name. -/
def field (w : Word) : (name : FieldName) → BitVec name.width
  | .op => opOf w
  | .rs => rsOf w
  | .rt => rtOf w
  | .rd => rdOf w
  | .shamt => shamtOf w
  | .func => funcOf w
  | .immediate => immediateOf w
  | .target => targetOf w

/-- A name with its `FIELD`. -/
def fieldValue (w : Word) (name : FieldName) : FieldValue := ⟨name, field w name⟩

/-- `FIELDS` (rule R95): in the descriptor's own order, most significant field first. -/
def fields (w : Word) : List FieldValue := (dispatch w).fields.map fun f => fieldValue w f.1

/-- `OPERANDS` (rule R96): in the descriptor's operand order. -/
def operands (w : Word) : List FieldValue := (dispatch w).operandOrder.map (fieldValue w)

/-- The concatenation of field values, the first most significant, read as an unsigned number (rules R12, R95). -/
def concatValue (vs : List FieldValue) : Nat :=
  vs.foldl (fun acc v => acc * 2 ^ v.name.width + v.value.toNat) 0

end Sys2Proof.Machine
end

