-- ==== Sys2Proof/Machine/Calls.lean ====
section
/-! DEFINITION. How each call of a host is served: whether it puts a word on the block's input port, is answered by an
adapter or a helper beside the block, or raises one of the three conditions. -/

namespace Sys2Proof.Machine

/-- What becomes of a call. -/
inductive Service where
  | evaluate (w : Word)
  | answer (r : Result)
  | raising (e : ErrorCondition)
deriving DecidableEq, Repr

/-- A word from an adapter goes to the block; a validation failure passes to the caller (rule R103). -/
def evaluateIfValid : Except ErrorCondition Word → Service
  | .ok w => .evaluate w
  | .error e => .raising e

/-- An adapter's value is the call's result, its failure the call's condition (rule R124). -/
def answerWith {α : Type} (result : α → Result) : Except ErrorCondition α → Service
  | .ok a => .answer (result a)
  | .error e => .raising e

/-- How a call is served. -/
def serve : Call → Service
  | .present w => .evaluate w
  | .presentBytes order b0 b1 b2 b3 => .evaluate (wordOfBytes order b0 b1 b2 b3)
  | .classifyText t => evaluateIfValid (parseWord t)
  | .classifyInteger n => evaluateIfValid (wordOfNat n)
  | .parseWord t => answerWith .word (parseWord t)
  | .formatWord w => .answer (.text (formatWord w))
  | .wordOfNat n => answerWith .word (wordOfNat n)
  | .render c => answerWith .text (render Config.regNames c)
  | .parseReg t => .answer (.registerCode (parseReg Config.regNames t))
  | .field w name => .answer (.fieldValues [fieldValue w name])
  | .fields w => .answer (.fieldValues (fields w))
  | .operands w => .answer (.fieldValues (operands w))

/-- The result of a call, as the functions of the spec give it (rule R146): of the call alone, of no state. -/
def resultOf (c : Call) : Result :=
  match serve c with
  | .evaluate w => .evaluated w (portsOf w)
  | .answer r => r
  | .raising e => .raised e

end Sys2Proof.Machine
end

