-- ==== Sys2Proof/Machine/Ops.lean ====
section
/-! DEFINITION. The shared operations over the state: an evaluation of the block, a result handed to the caller, and
an error condition raised. There is no memory and no register to operate on (rules R27, R40). -/

namespace Sys2Proof.Machine

/-- A result is handed to the caller; nothing else changes. -/
def deliver (r : Result) (s : State) : State := { s with results := s.results ++ [r] }

/-- One evaluation of the block (rules R90, R146): a word is presented, the outputs take the values that the selector
and the word give them, and they are read. -/
def drive (w : Word) (sel : Sel) (s : State) : State :=
  deliver (.evaluated w (portsWith sel w)) { s with word := w, out := portsWith sel w }

/-- TAKING AN EXCEPTION: what raising does (rule R124). The caller receives the condition with its payload. Nothing is
saved anywhere, no mode changes, no vector is consulted, no word reaches the block. There is no return from it, since
there is no handler (rule R125). -/
def raise (e : ErrorCondition) (s : State) : State := deliver (.raised e) s

/-- The calls left after the one being served. -/
def State.withPending (s : State) (rest : List Call) : State := { s with pending := rest }

end Sys2Proof.Machine
end

