-- ==== Sys2Proof/Machine/IFormat.lean ====
section
/-! DEFINITION. The meanings of the 61 `I_op_*` rows (rule R75), the catch-all: the word is presented and the block
answers selector `I`, kind `I`, `DESC_I`. It is no error outcome and nothing is raised. -/

namespace Sys2Proof.Machine

/-- Outcome `I` (rule R75). -/
def evaluateI (op : BitVec 6) (rs rt : BitVec 5) (immediate : BitVec 16) (s : State) :
    Host.Outcome State Fault Refusal :=
  .next (drive (iLayout op rs rt immediate) .i s)

def execIOp000001 (rs rt : BitVec 5) (immediate : BitVec 16) (s : State) : Host.Outcome State Fault Refusal :=
  evaluateI 0b000001#6 rs rt immediate s

def execIOp000100 (rs rt : BitVec 5) (immediate : BitVec 16) (s : State) : Host.Outcome State Fault Refusal :=
  evaluateI 0b000100#6 rs rt immediate s

def execIOp000101 (rs rt : BitVec 5) (immediate : BitVec 16) (s : State) : Host.Outcome State Fault Refusal :=
  evaluateI 0b000101#6 rs rt immediate s

def execIOp000110 (rs rt : BitVec 5) (immediate : BitVec 16) (s : State) : Host.Outcome State Fault Refusal :=
  evaluateI 0b000110#6 rs rt immediate s

def execIOp000111 (rs rt : BitVec 5) (immediate : BitVec 16) (s : State) : Host.Outcome State Fault Refusal :=
  evaluateI 0b000111#6 rs rt immediate s

def execIOp001000 (rs rt : BitVec 5) (immediate : BitVec 16) (s : State) : Host.Outcome State Fault Refusal :=
  evaluateI 0b001000#6 rs rt immediate s

def execIOp001001 (rs rt : BitVec 5) (immediate : BitVec 16) (s : State) : Host.Outcome State Fault Refusal :=
  evaluateI 0b001001#6 rs rt immediate s

def execIOp001010 (rs rt : BitVec 5) (immediate : BitVec 16) (s : State) : Host.Outcome State Fault Refusal :=
  evaluateI 0b001010#6 rs rt immediate s

def execIOp001011 (rs rt : BitVec 5) (immediate : BitVec 16) (s : State) : Host.Outcome State Fault Refusal :=
  evaluateI 0b001011#6 rs rt immediate s

def execIOp001100 (rs rt : BitVec 5) (immediate : BitVec 16) (s : State) : Host.Outcome State Fault Refusal :=
  evaluateI 0b001100#6 rs rt immediate s

def execIOp001101 (rs rt : BitVec 5) (immediate : BitVec 16) (s : State) : Host.Outcome State Fault Refusal :=
  evaluateI 0b001101#6 rs rt immediate s

def execIOp001110 (rs rt : BitVec 5) (immediate : BitVec 16) (s : State) : Host.Outcome State Fault Refusal :=
  evaluateI 0b001110#6 rs rt immediate s

def execIOp001111 (rs rt : BitVec 5) (immediate : BitVec 16) (s : State) : Host.Outcome State Fault Refusal :=
  evaluateI 0b001111#6 rs rt immediate s

def execIOp010000 (rs rt : BitVec 5) (immediate : BitVec 16) (s : State) : Host.Outcome State Fault Refusal :=
  evaluateI 0b010000#6 rs rt immediate s

def execIOp010001 (rs rt : BitVec 5) (immediate : BitVec 16) (s : State) : Host.Outcome State Fault Refusal :=
  evaluateI 0b010001#6 rs rt immediate s

def execIOp010010 (rs rt : BitVec 5) (immediate : BitVec 16) (s : State) : Host.Outcome State Fault Refusal :=
  evaluateI 0b010010#6 rs rt immediate s

def execIOp010011 (rs rt : BitVec 5) (immediate : BitVec 16) (s : State) : Host.Outcome State Fault Refusal :=
  evaluateI 0b010011#6 rs rt immediate s

def execIOp010100 (rs rt : BitVec 5) (immediate : BitVec 16) (s : State) : Host.Outcome State Fault Refusal :=
  evaluateI 0b010100#6 rs rt immediate s

def execIOp010101 (rs rt : BitVec 5) (immediate : BitVec 16) (s : State) : Host.Outcome State Fault Refusal :=
  evaluateI 0b010101#6 rs rt immediate s

def execIOp010110 (rs rt : BitVec 5) (immediate : BitVec 16) (s : State) : Host.Outcome State Fault Refusal :=
  evaluateI 0b010110#6 rs rt immediate s

def execIOp010111 (rs rt : BitVec 5) (immediate : BitVec 16) (s : State) : Host.Outcome State Fault Refusal :=
  evaluateI 0b010111#6 rs rt immediate s

def execIOp011000 (rs rt : BitVec 5) (immediate : BitVec 16) (s : State) : Host.Outcome State Fault Refusal :=
  evaluateI 0b011000#6 rs rt immediate s

def execIOp011001 (rs rt : BitVec 5) (immediate : BitVec 16) (s : State) : Host.Outcome State Fault Refusal :=
  evaluateI 0b011001#6 rs rt immediate s

def execIOp011010 (rs rt : BitVec 5) (immediate : BitVec 16) (s : State) : Host.Outcome State Fault Refusal :=
  evaluateI 0b011010#6 rs rt immediate s

def execIOp011011 (rs rt : BitVec 5) (immediate : BitVec 16) (s : State) : Host.Outcome State Fault Refusal :=
  evaluateI 0b011011#6 rs rt immediate s

def execIOp011100 (rs rt : BitVec 5) (immediate : BitVec 16) (s : State) : Host.Outcome State Fault Refusal :=
  evaluateI 0b011100#6 rs rt immediate s

def execIOp011101 (rs rt : BitVec 5) (immediate : BitVec 16) (s : State) : Host.Outcome State Fault Refusal :=
  evaluateI 0b011101#6 rs rt immediate s

def execIOp011110 (rs rt : BitVec 5) (immediate : BitVec 16) (s : State) : Host.Outcome State Fault Refusal :=
  evaluateI 0b011110#6 rs rt immediate s

def execIOp011111 (rs rt : BitVec 5) (immediate : BitVec 16) (s : State) : Host.Outcome State Fault Refusal :=
  evaluateI 0b011111#6 rs rt immediate s

def execIOp100000 (rs rt : BitVec 5) (immediate : BitVec 16) (s : State) : Host.Outcome State Fault Refusal :=
  evaluateI 0b100000#6 rs rt immediate s

def execIOp100001 (rs rt : BitVec 5) (immediate : BitVec 16) (s : State) : Host.Outcome State Fault Refusal :=
  evaluateI 0b100001#6 rs rt immediate s

def execIOp100010 (rs rt : BitVec 5) (immediate : BitVec 16) (s : State) : Host.Outcome State Fault Refusal :=
  evaluateI 0b100010#6 rs rt immediate s

def execIOp100011 (rs rt : BitVec 5) (immediate : BitVec 16) (s : State) : Host.Outcome State Fault Refusal :=
  evaluateI 0b100011#6 rs rt immediate s

def execIOp100100 (rs rt : BitVec 5) (immediate : BitVec 16) (s : State) : Host.Outcome State Fault Refusal :=
  evaluateI 0b100100#6 rs rt immediate s

def execIOp100101 (rs rt : BitVec 5) (immediate : BitVec 16) (s : State) : Host.Outcome State Fault Refusal :=
  evaluateI 0b100101#6 rs rt immediate s

def execIOp100110 (rs rt : BitVec 5) (immediate : BitVec 16) (s : State) : Host.Outcome State Fault Refusal :=
  evaluateI 0b100110#6 rs rt immediate s

def execIOp100111 (rs rt : BitVec 5) (immediate : BitVec 16) (s : State) : Host.Outcome State Fault Refusal :=
  evaluateI 0b100111#6 rs rt immediate s

def execIOp101000 (rs rt : BitVec 5) (immediate : BitVec 16) (s : State) : Host.Outcome State Fault Refusal :=
  evaluateI 0b101000#6 rs rt immediate s

def execIOp101001 (rs rt : BitVec 5) (immediate : BitVec 16) (s : State) : Host.Outcome State Fault Refusal :=
  evaluateI 0b101001#6 rs rt immediate s

def execIOp101010 (rs rt : BitVec 5) (immediate : BitVec 16) (s : State) : Host.Outcome State Fault Refusal :=
  evaluateI 0b101010#6 rs rt immediate s

def execIOp101011 (rs rt : BitVec 5) (immediate : BitVec 16) (s : State) : Host.Outcome State Fault Refusal :=
  evaluateI 0b101011#6 rs rt immediate s

def execIOp101100 (rs rt : BitVec 5) (immediate : BitVec 16) (s : State) : Host.Outcome State Fault Refusal :=
  evaluateI 0b101100#6 rs rt immediate s

def execIOp101101 (rs rt : BitVec 5) (immediate : BitVec 16) (s : State) : Host.Outcome State Fault Refusal :=
  evaluateI 0b101101#6 rs rt immediate s

def execIOp101110 (rs rt : BitVec 5) (immediate : BitVec 16) (s : State) : Host.Outcome State Fault Refusal :=
  evaluateI 0b101110#6 rs rt immediate s

def execIOp101111 (rs rt : BitVec 5) (immediate : BitVec 16) (s : State) : Host.Outcome State Fault Refusal :=
  evaluateI 0b101111#6 rs rt immediate s

def execIOp110000 (rs rt : BitVec 5) (immediate : BitVec 16) (s : State) : Host.Outcome State Fault Refusal :=
  evaluateI 0b110000#6 rs rt immediate s

def execIOp110001 (rs rt : BitVec 5) (immediate : BitVec 16) (s : State) : Host.Outcome State Fault Refusal :=
  evaluateI 0b110001#6 rs rt immediate s

def execIOp110010 (rs rt : BitVec 5) (immediate : BitVec 16) (s : State) : Host.Outcome State Fault Refusal :=
  evaluateI 0b110010#6 rs rt immediate s

def execIOp110011 (rs rt : BitVec 5) (immediate : BitVec 16) (s : State) : Host.Outcome State Fault Refusal :=
  evaluateI 0b110011#6 rs rt immediate s

def execIOp110100 (rs rt : BitVec 5) (immediate : BitVec 16) (s : State) : Host.Outcome State Fault Refusal :=
  evaluateI 0b110100#6 rs rt immediate s

def execIOp110101 (rs rt : BitVec 5) (immediate : BitVec 16) (s : State) : Host.Outcome State Fault Refusal :=
  evaluateI 0b110101#6 rs rt immediate s

def execIOp110110 (rs rt : BitVec 5) (immediate : BitVec 16) (s : State) : Host.Outcome State Fault Refusal :=
  evaluateI 0b110110#6 rs rt immediate s

def execIOp110111 (rs rt : BitVec 5) (immediate : BitVec 16) (s : State) : Host.Outcome State Fault Refusal :=
  evaluateI 0b110111#6 rs rt immediate s

def execIOp111000 (rs rt : BitVec 5) (immediate : BitVec 16) (s : State) : Host.Outcome State Fault Refusal :=
  evaluateI 0b111000#6 rs rt immediate s

def execIOp111001 (rs rt : BitVec 5) (immediate : BitVec 16) (s : State) : Host.Outcome State Fault Refusal :=
  evaluateI 0b111001#6 rs rt immediate s

def execIOp111010 (rs rt : BitVec 5) (immediate : BitVec 16) (s : State) : Host.Outcome State Fault Refusal :=
  evaluateI 0b111010#6 rs rt immediate s

def execIOp111011 (rs rt : BitVec 5) (immediate : BitVec 16) (s : State) : Host.Outcome State Fault Refusal :=
  evaluateI 0b111011#6 rs rt immediate s

def execIOp111100 (rs rt : BitVec 5) (immediate : BitVec 16) (s : State) : Host.Outcome State Fault Refusal :=
  evaluateI 0b111100#6 rs rt immediate s

def execIOp111101 (rs rt : BitVec 5) (immediate : BitVec 16) (s : State) : Host.Outcome State Fault Refusal :=
  evaluateI 0b111101#6 rs rt immediate s

def execIOp111110 (rs rt : BitVec 5) (immediate : BitVec 16) (s : State) : Host.Outcome State Fault Refusal :=
  evaluateI 0b111110#6 rs rt immediate s

def execIOp111111 (rs rt : BitVec 5) (immediate : BitVec 16) (s : State) : Host.Outcome State Fault Refusal :=
  evaluateI 0b111111#6 rs rt immediate s

end Sys2Proof.Machine
end

