-- ==== Sys2Proof/Machine/JFormat.lean ====
section
/-! DEFINITION. The meanings of the two `J_op_*` rows (rule R74): the word is presented and the block answers
selector `J`, kind `J`, `DESC_J`. No control is transferred (rule R80). -/

namespace Sys2Proof.Machine

/-- Outcome `J` (rule R74). -/
def evaluateJ (op : BitVec 6) (target : BitVec 26) (s : State) : Host.Outcome State Fault Refusal :=
  .next (drive (jLayout op target) .j s)

def execJOp000010 (target : BitVec 26) (s : State) : Host.Outcome State Fault Refusal :=
  evaluateJ 0b000010#6 target s

def execJOp000011 (target : BitVec 26) (s : State) : Host.Outcome State Fault Refusal :=
  evaluateJ 0b000011#6 target s

end Sys2Proof.Machine
end

