-- ==== Sys2Proof/Machine/RFormat.lean ====
section
/-! DEFINITION. The meanings of the 58 `R_func_*` rows (rule R73): the word is presented and the block answers
selector `R`, kind `R`, `DESC_R`. No flag is written and nothing is raised, whatever the word is in MIPS (rule R129). -/

namespace Sys2Proof.Machine

/-- Outcome `R` for a word of opcode 000000 (rule R73). -/
def evaluateR (func : BitVec 6) (rs rt rd shamt : BitVec 5) (s : State) : Host.Outcome State Fault Refusal :=
  .next (drive (rLayout 0b000000#6 rs rt rd shamt func) .r s)

def execRFunc000001 (rs rt rd shamt : BitVec 5) (s : State) : Host.Outcome State Fault Refusal :=
  evaluateR 0b000001#6 rs rt rd shamt s

def execRFunc000101 (rs rt rd shamt : BitVec 5) (s : State) : Host.Outcome State Fault Refusal :=
  evaluateR 0b000101#6 rs rt rd shamt s

def execRFunc001000 (rs rt rd shamt : BitVec 5) (s : State) : Host.Outcome State Fault Refusal :=
  evaluateR 0b001000#6 rs rt rd shamt s

def execRFunc001001 (rs rt rd shamt : BitVec 5) (s : State) : Host.Outcome State Fault Refusal :=
  evaluateR 0b001001#6 rs rt rd shamt s

def execRFunc001010 (rs rt rd shamt : BitVec 5) (s : State) : Host.Outcome State Fault Refusal :=
  evaluateR 0b001010#6 rs rt rd shamt s

def execRFunc001011 (rs rt rd shamt : BitVec 5) (s : State) : Host.Outcome State Fault Refusal :=
  evaluateR 0b001011#6 rs rt rd shamt s

def execRFunc001100 (rs rt rd shamt : BitVec 5) (s : State) : Host.Outcome State Fault Refusal :=
  evaluateR 0b001100#6 rs rt rd shamt s

def execRFunc001101 (rs rt rd shamt : BitVec 5) (s : State) : Host.Outcome State Fault Refusal :=
  evaluateR 0b001101#6 rs rt rd shamt s

def execRFunc001110 (rs rt rd shamt : BitVec 5) (s : State) : Host.Outcome State Fault Refusal :=
  evaluateR 0b001110#6 rs rt rd shamt s

def execRFunc001111 (rs rt rd shamt : BitVec 5) (s : State) : Host.Outcome State Fault Refusal :=
  evaluateR 0b001111#6 rs rt rd shamt s

def execRFunc010000 (rs rt rd shamt : BitVec 5) (s : State) : Host.Outcome State Fault Refusal :=
  evaluateR 0b010000#6 rs rt rd shamt s

def execRFunc010001 (rs rt rd shamt : BitVec 5) (s : State) : Host.Outcome State Fault Refusal :=
  evaluateR 0b010001#6 rs rt rd shamt s

def execRFunc010010 (rs rt rd shamt : BitVec 5) (s : State) : Host.Outcome State Fault Refusal :=
  evaluateR 0b010010#6 rs rt rd shamt s

def execRFunc010011 (rs rt rd shamt : BitVec 5) (s : State) : Host.Outcome State Fault Refusal :=
  evaluateR 0b010011#6 rs rt rd shamt s

def execRFunc010100 (rs rt rd shamt : BitVec 5) (s : State) : Host.Outcome State Fault Refusal :=
  evaluateR 0b010100#6 rs rt rd shamt s

def execRFunc010101 (rs rt rd shamt : BitVec 5) (s : State) : Host.Outcome State Fault Refusal :=
  evaluateR 0b010101#6 rs rt rd shamt s

def execRFunc010110 (rs rt rd shamt : BitVec 5) (s : State) : Host.Outcome State Fault Refusal :=
  evaluateR 0b010110#6 rs rt rd shamt s

def execRFunc010111 (rs rt rd shamt : BitVec 5) (s : State) : Host.Outcome State Fault Refusal :=
  evaluateR 0b010111#6 rs rt rd shamt s

def execRFunc011000 (rs rt rd shamt : BitVec 5) (s : State) : Host.Outcome State Fault Refusal :=
  evaluateR 0b011000#6 rs rt rd shamt s

def execRFunc011001 (rs rt rd shamt : BitVec 5) (s : State) : Host.Outcome State Fault Refusal :=
  evaluateR 0b011001#6 rs rt rd shamt s

def execRFunc011010 (rs rt rd shamt : BitVec 5) (s : State) : Host.Outcome State Fault Refusal :=
  evaluateR 0b011010#6 rs rt rd shamt s

def execRFunc011011 (rs rt rd shamt : BitVec 5) (s : State) : Host.Outcome State Fault Refusal :=
  evaluateR 0b011011#6 rs rt rd shamt s

def execRFunc011100 (rs rt rd shamt : BitVec 5) (s : State) : Host.Outcome State Fault Refusal :=
  evaluateR 0b011100#6 rs rt rd shamt s

def execRFunc011101 (rs rt rd shamt : BitVec 5) (s : State) : Host.Outcome State Fault Refusal :=
  evaluateR 0b011101#6 rs rt rd shamt s

def execRFunc011110 (rs rt rd shamt : BitVec 5) (s : State) : Host.Outcome State Fault Refusal :=
  evaluateR 0b011110#6 rs rt rd shamt s

def execRFunc011111 (rs rt rd shamt : BitVec 5) (s : State) : Host.Outcome State Fault Refusal :=
  evaluateR 0b011111#6 rs rt rd shamt s

def execRFunc100000 (rs rt rd shamt : BitVec 5) (s : State) : Host.Outcome State Fault Refusal :=
  evaluateR 0b100000#6 rs rt rd shamt s

def execRFunc100001 (rs rt rd shamt : BitVec 5) (s : State) : Host.Outcome State Fault Refusal :=
  evaluateR 0b100001#6 rs rt rd shamt s

def execRFunc100010 (rs rt rd shamt : BitVec 5) (s : State) : Host.Outcome State Fault Refusal :=
  evaluateR 0b100010#6 rs rt rd shamt s

def execRFunc100011 (rs rt rd shamt : BitVec 5) (s : State) : Host.Outcome State Fault Refusal :=
  evaluateR 0b100011#6 rs rt rd shamt s

def execRFunc100100 (rs rt rd shamt : BitVec 5) (s : State) : Host.Outcome State Fault Refusal :=
  evaluateR 0b100100#6 rs rt rd shamt s

def execRFunc100101 (rs rt rd shamt : BitVec 5) (s : State) : Host.Outcome State Fault Refusal :=
  evaluateR 0b100101#6 rs rt rd shamt s

def execRFunc100110 (rs rt rd shamt : BitVec 5) (s : State) : Host.Outcome State Fault Refusal :=
  evaluateR 0b100110#6 rs rt rd shamt s

def execRFunc100111 (rs rt rd shamt : BitVec 5) (s : State) : Host.Outcome State Fault Refusal :=
  evaluateR 0b100111#6 rs rt rd shamt s

def execRFunc101000 (rs rt rd shamt : BitVec 5) (s : State) : Host.Outcome State Fault Refusal :=
  evaluateR 0b101000#6 rs rt rd shamt s

def execRFunc101001 (rs rt rd shamt : BitVec 5) (s : State) : Host.Outcome State Fault Refusal :=
  evaluateR 0b101001#6 rs rt rd shamt s

def execRFunc101010 (rs rt rd shamt : BitVec 5) (s : State) : Host.Outcome State Fault Refusal :=
  evaluateR 0b101010#6 rs rt rd shamt s

def execRFunc101011 (rs rt rd shamt : BitVec 5) (s : State) : Host.Outcome State Fault Refusal :=
  evaluateR 0b101011#6 rs rt rd shamt s

def execRFunc101100 (rs rt rd shamt : BitVec 5) (s : State) : Host.Outcome State Fault Refusal :=
  evaluateR 0b101100#6 rs rt rd shamt s

def execRFunc101101 (rs rt rd shamt : BitVec 5) (s : State) : Host.Outcome State Fault Refusal :=
  evaluateR 0b101101#6 rs rt rd shamt s

def execRFunc101110 (rs rt rd shamt : BitVec 5) (s : State) : Host.Outcome State Fault Refusal :=
  evaluateR 0b101110#6 rs rt rd shamt s

def execRFunc101111 (rs rt rd shamt : BitVec 5) (s : State) : Host.Outcome State Fault Refusal :=
  evaluateR 0b101111#6 rs rt rd shamt s

def execRFunc110000 (rs rt rd shamt : BitVec 5) (s : State) : Host.Outcome State Fault Refusal :=
  evaluateR 0b110000#6 rs rt rd shamt s

def execRFunc110001 (rs rt rd shamt : BitVec 5) (s : State) : Host.Outcome State Fault Refusal :=
  evaluateR 0b110001#6 rs rt rd shamt s

def execRFunc110010 (rs rt rd shamt : BitVec 5) (s : State) : Host.Outcome State Fault Refusal :=
  evaluateR 0b110010#6 rs rt rd shamt s

def execRFunc110011 (rs rt rd shamt : BitVec 5) (s : State) : Host.Outcome State Fault Refusal :=
  evaluateR 0b110011#6 rs rt rd shamt s

def execRFunc110100 (rs rt rd shamt : BitVec 5) (s : State) : Host.Outcome State Fault Refusal :=
  evaluateR 0b110100#6 rs rt rd shamt s

def execRFunc110101 (rs rt rd shamt : BitVec 5) (s : State) : Host.Outcome State Fault Refusal :=
  evaluateR 0b110101#6 rs rt rd shamt s

def execRFunc110110 (rs rt rd shamt : BitVec 5) (s : State) : Host.Outcome State Fault Refusal :=
  evaluateR 0b110110#6 rs rt rd shamt s

def execRFunc110111 (rs rt rd shamt : BitVec 5) (s : State) : Host.Outcome State Fault Refusal :=
  evaluateR 0b110111#6 rs rt rd shamt s

def execRFunc111000 (rs rt rd shamt : BitVec 5) (s : State) : Host.Outcome State Fault Refusal :=
  evaluateR 0b111000#6 rs rt rd shamt s

def execRFunc111001 (rs rt rd shamt : BitVec 5) (s : State) : Host.Outcome State Fault Refusal :=
  evaluateR 0b111001#6 rs rt rd shamt s

def execRFunc111010 (rs rt rd shamt : BitVec 5) (s : State) : Host.Outcome State Fault Refusal :=
  evaluateR 0b111010#6 rs rt rd shamt s

def execRFunc111011 (rs rt rd shamt : BitVec 5) (s : State) : Host.Outcome State Fault Refusal :=
  evaluateR 0b111011#6 rs rt rd shamt s

def execRFunc111100 (rs rt rd shamt : BitVec 5) (s : State) : Host.Outcome State Fault Refusal :=
  evaluateR 0b111100#6 rs rt rd shamt s

def execRFunc111101 (rs rt rd shamt : BitVec 5) (s : State) : Host.Outcome State Fault Refusal :=
  evaluateR 0b111101#6 rs rt rd shamt s

def execRFunc111110 (rs rt rd shamt : BitVec 5) (s : State) : Host.Outcome State Fault Refusal :=
  evaluateR 0b111110#6 rs rt rd shamt s

def execRFunc111111 (rs rt rd shamt : BitVec 5) (s : State) : Host.Outcome State Fault Refusal :=
  evaluateR 0b111111#6 rs rt rd shamt s

end Sys2Proof.Machine
end

