-- ==== Sys2Proof/Machine/Shift.lean ====
section
/-! DEFINITION. The meanings of the six `SHIFT_func_*` rows (rule R72): the word is presented and the
block answers selector `SHIFT`, kind `R`, `DESC_SHIFT`. No flag is written and nothing is raised. -/

namespace Sys2Proof.Machine

/-- Outcome `SHIFT` for a word of opcode 000000 (rule R72). -/
def evaluateShift (func : BitVec 6) (rs rt rd shamt : BitVec 5) (s : State) : Host.Outcome State Fault Refusal :=
  .next (drive (rLayout 0b000000#6 rs rt rd shamt func) .shift s)

def execShiftFunc000000 (rs rt rd shamt : BitVec 5) (s : State) : Host.Outcome State Fault Refusal :=
  evaluateShift 0b000000#6 rs rt rd shamt s

def execShiftFunc000010 (rs rt rd shamt : BitVec 5) (s : State) : Host.Outcome State Fault Refusal :=
  evaluateShift 0b000010#6 rs rt rd shamt s

def execShiftFunc000011 (rs rt rd shamt : BitVec 5) (s : State) : Host.Outcome State Fault Refusal :=
  evaluateShift 0b000011#6 rs rt rd shamt s

def execShiftFunc000100 (rs rt rd shamt : BitVec 5) (s : State) : Host.Outcome State Fault Refusal :=
  evaluateShift 0b000100#6 rs rt rd shamt s

def execShiftFunc000110 (rs rt rd shamt : BitVec 5) (s : State) : Host.Outcome State Fault Refusal :=
  evaluateShift 0b000110#6 rs rt rd shamt s

def execShiftFunc000111 (rs rt rd shamt : BitVec 5) (s : State) : Host.Outcome State Fault Refusal :=
  evaluateShift 0b000111#6 rs rt rd shamt s

end Sys2Proof.Machine
end

