-- ==== Sys2Proof/Machine/Dispatch.lean ====
section
/-! DEFINITION. Which meaning each instruction has: one arm per constructor. -/

namespace Sys2Proof.Machine

def exec (i : Instr) (s : State) : Host.Outcome State Fault Refusal :=
  match i with
  -- Opcode 000000 with a function code of the shift set (rule R72).
  | .shiftFunc000000 rs rt rd shamt => Sys2Proof.Machine.execShiftFunc000000 rs rt rd shamt s
  | .shiftFunc000010 rs rt rd shamt => Sys2Proof.Machine.execShiftFunc000010 rs rt rd shamt s
  | .shiftFunc000011 rs rt rd shamt => Sys2Proof.Machine.execShiftFunc000011 rs rt rd shamt s
  | .shiftFunc000100 rs rt rd shamt => Sys2Proof.Machine.execShiftFunc000100 rs rt rd shamt s
  | .shiftFunc000110 rs rt rd shamt => Sys2Proof.Machine.execShiftFunc000110 rs rt rd shamt s
  | .shiftFunc000111 rs rt rd shamt => Sys2Proof.Machine.execShiftFunc000111 rs rt rd shamt s
  -- Opcode 000000 with any other function code (rule R73).
  | .rFunc000001 rs rt rd shamt => Sys2Proof.Machine.execRFunc000001 rs rt rd shamt s
  | .rFunc000101 rs rt rd shamt => Sys2Proof.Machine.execRFunc000101 rs rt rd shamt s
  | .rFunc001000 rs rt rd shamt => Sys2Proof.Machine.execRFunc001000 rs rt rd shamt s
  | .rFunc001001 rs rt rd shamt => Sys2Proof.Machine.execRFunc001001 rs rt rd shamt s
  | .rFunc001010 rs rt rd shamt => Sys2Proof.Machine.execRFunc001010 rs rt rd shamt s
  | .rFunc001011 rs rt rd shamt => Sys2Proof.Machine.execRFunc001011 rs rt rd shamt s
  | .rFunc001100 rs rt rd shamt => Sys2Proof.Machine.execRFunc001100 rs rt rd shamt s
  | .rFunc001101 rs rt rd shamt => Sys2Proof.Machine.execRFunc001101 rs rt rd shamt s
  | .rFunc001110 rs rt rd shamt => Sys2Proof.Machine.execRFunc001110 rs rt rd shamt s
  | .rFunc001111 rs rt rd shamt => Sys2Proof.Machine.execRFunc001111 rs rt rd shamt s
  | .rFunc010000 rs rt rd shamt => Sys2Proof.Machine.execRFunc010000 rs rt rd shamt s
  | .rFunc010001 rs rt rd shamt => Sys2Proof.Machine.execRFunc010001 rs rt rd shamt s
  | .rFunc010010 rs rt rd shamt => Sys2Proof.Machine.execRFunc010010 rs rt rd shamt s
  | .rFunc010011 rs rt rd shamt => Sys2Proof.Machine.execRFunc010011 rs rt rd shamt s
  | .rFunc010100 rs rt rd shamt => Sys2Proof.Machine.execRFunc010100 rs rt rd shamt s
  | .rFunc010101 rs rt rd shamt => Sys2Proof.Machine.execRFunc010101 rs rt rd shamt s
  | .rFunc010110 rs rt rd shamt => Sys2Proof.Machine.execRFunc010110 rs rt rd shamt s
  | .rFunc010111 rs rt rd shamt => Sys2Proof.Machine.execRFunc010111 rs rt rd shamt s
  | .rFunc011000 rs rt rd shamt => Sys2Proof.Machine.execRFunc011000 rs rt rd shamt s
  | .rFunc011001 rs rt rd shamt => Sys2Proof.Machine.execRFunc011001 rs rt rd shamt s
  | .rFunc011010 rs rt rd shamt => Sys2Proof.Machine.execRFunc011010 rs rt rd shamt s
  | .rFunc011011 rs rt rd shamt => Sys2Proof.Machine.execRFunc011011 rs rt rd shamt s
  | .rFunc011100 rs rt rd shamt => Sys2Proof.Machine.execRFunc011100 rs rt rd shamt s
  | .rFunc011101 rs rt rd shamt => Sys2Proof.Machine.execRFunc011101 rs rt rd shamt s
  | .rFunc011110 rs rt rd shamt => Sys2Proof.Machine.execRFunc011110 rs rt rd shamt s
  | .rFunc011111 rs rt rd shamt => Sys2Proof.Machine.execRFunc011111 rs rt rd shamt s
  | .rFunc100000 rs rt rd shamt => Sys2Proof.Machine.execRFunc100000 rs rt rd shamt s
  | .rFunc100001 rs rt rd shamt => Sys2Proof.Machine.execRFunc100001 rs rt rd shamt s
  | .rFunc100010 rs rt rd shamt => Sys2Proof.Machine.execRFunc100010 rs rt rd shamt s
  | .rFunc100011 rs rt rd shamt => Sys2Proof.Machine.execRFunc100011 rs rt rd shamt s
  | .rFunc100100 rs rt rd shamt => Sys2Proof.Machine.execRFunc100100 rs rt rd shamt s
  | .rFunc100101 rs rt rd shamt => Sys2Proof.Machine.execRFunc100101 rs rt rd shamt s
  | .rFunc100110 rs rt rd shamt => Sys2Proof.Machine.execRFunc100110 rs rt rd shamt s
  | .rFunc100111 rs rt rd shamt => Sys2Proof.Machine.execRFunc100111 rs rt rd shamt s
  | .rFunc101000 rs rt rd shamt => Sys2Proof.Machine.execRFunc101000 rs rt rd shamt s
  | .rFunc101001 rs rt rd shamt => Sys2Proof.Machine.execRFunc101001 rs rt rd shamt s
  | .rFunc101010 rs rt rd shamt => Sys2Proof.Machine.execRFunc101010 rs rt rd shamt s
  | .rFunc101011 rs rt rd shamt => Sys2Proof.Machine.execRFunc101011 rs rt rd shamt s
  | .rFunc101100 rs rt rd shamt => Sys2Proof.Machine.execRFunc101100 rs rt rd shamt s
  | .rFunc101101 rs rt rd shamt => Sys2Proof.Machine.execRFunc101101 rs rt rd shamt s
  | .rFunc101110 rs rt rd shamt => Sys2Proof.Machine.execRFunc101110 rs rt rd shamt s
  | .rFunc101111 rs rt rd shamt => Sys2Proof.Machine.execRFunc101111 rs rt rd shamt s
  | .rFunc110000 rs rt rd shamt => Sys2Proof.Machine.execRFunc110000 rs rt rd shamt s
  | .rFunc110001 rs rt rd shamt => Sys2Proof.Machine.execRFunc110001 rs rt rd shamt s
  | .rFunc110010 rs rt rd shamt => Sys2Proof.Machine.execRFunc110010 rs rt rd shamt s
  | .rFunc110011 rs rt rd shamt => Sys2Proof.Machine.execRFunc110011 rs rt rd shamt s
  | .rFunc110100 rs rt rd shamt => Sys2Proof.Machine.execRFunc110100 rs rt rd shamt s
  | .rFunc110101 rs rt rd shamt => Sys2Proof.Machine.execRFunc110101 rs rt rd shamt s
  | .rFunc110110 rs rt rd shamt => Sys2Proof.Machine.execRFunc110110 rs rt rd shamt s
  | .rFunc110111 rs rt rd shamt => Sys2Proof.Machine.execRFunc110111 rs rt rd shamt s
  | .rFunc111000 rs rt rd shamt => Sys2Proof.Machine.execRFunc111000 rs rt rd shamt s
  | .rFunc111001 rs rt rd shamt => Sys2Proof.Machine.execRFunc111001 rs rt rd shamt s
  | .rFunc111010 rs rt rd shamt => Sys2Proof.Machine.execRFunc111010 rs rt rd shamt s
  | .rFunc111011 rs rt rd shamt => Sys2Proof.Machine.execRFunc111011 rs rt rd shamt s
  | .rFunc111100 rs rt rd shamt => Sys2Proof.Machine.execRFunc111100 rs rt rd shamt s
  | .rFunc111101 rs rt rd shamt => Sys2Proof.Machine.execRFunc111101 rs rt rd shamt s
  | .rFunc111110 rs rt rd shamt => Sys2Proof.Machine.execRFunc111110 rs rt rd shamt s
  | .rFunc111111 rs rt rd shamt => Sys2Proof.Machine.execRFunc111111 rs rt rd shamt s
  -- Opcodes 000010 and 000011 (rule R74).
  | .jOp000010 target => Sys2Proof.Machine.execJOp000010 target s
  | .jOp000011 target => Sys2Proof.Machine.execJOp000011 target s
  -- Every other opcode (rule R75).
  | .iOp000001 rs rt immediate => Sys2Proof.Machine.execIOp000001 rs rt immediate s
  | .iOp000100 rs rt immediate => Sys2Proof.Machine.execIOp000100 rs rt immediate s
  | .iOp000101 rs rt immediate => Sys2Proof.Machine.execIOp000101 rs rt immediate s
  | .iOp000110 rs rt immediate => Sys2Proof.Machine.execIOp000110 rs rt immediate s
  | .iOp000111 rs rt immediate => Sys2Proof.Machine.execIOp000111 rs rt immediate s
  | .iOp001000 rs rt immediate => Sys2Proof.Machine.execIOp001000 rs rt immediate s
  | .iOp001001 rs rt immediate => Sys2Proof.Machine.execIOp001001 rs rt immediate s
  | .iOp001010 rs rt immediate => Sys2Proof.Machine.execIOp001010 rs rt immediate s
  | .iOp001011 rs rt immediate => Sys2Proof.Machine.execIOp001011 rs rt immediate s
  | .iOp001100 rs rt immediate => Sys2Proof.Machine.execIOp001100 rs rt immediate s
  | .iOp001101 rs rt immediate => Sys2Proof.Machine.execIOp001101 rs rt immediate s
  | .iOp001110 rs rt immediate => Sys2Proof.Machine.execIOp001110 rs rt immediate s
  | .iOp001111 rs rt immediate => Sys2Proof.Machine.execIOp001111 rs rt immediate s
  | .iOp010000 rs rt immediate => Sys2Proof.Machine.execIOp010000 rs rt immediate s
  | .iOp010001 rs rt immediate => Sys2Proof.Machine.execIOp010001 rs rt immediate s
  | .iOp010010 rs rt immediate => Sys2Proof.Machine.execIOp010010 rs rt immediate s
  | .iOp010011 rs rt immediate => Sys2Proof.Machine.execIOp010011 rs rt immediate s
  | .iOp010100 rs rt immediate => Sys2Proof.Machine.execIOp010100 rs rt immediate s
  | .iOp010101 rs rt immediate => Sys2Proof.Machine.execIOp010101 rs rt immediate s
  | .iOp010110 rs rt immediate => Sys2Proof.Machine.execIOp010110 rs rt immediate s
  | .iOp010111 rs rt immediate => Sys2Proof.Machine.execIOp010111 rs rt immediate s
  | .iOp011000 rs rt immediate => Sys2Proof.Machine.execIOp011000 rs rt immediate s
  | .iOp011001 rs rt immediate => Sys2Proof.Machine.execIOp011001 rs rt immediate s
  | .iOp011010 rs rt immediate => Sys2Proof.Machine.execIOp011010 rs rt immediate s
  | .iOp011011 rs rt immediate => Sys2Proof.Machine.execIOp011011 rs rt immediate s
  | .iOp011100 rs rt immediate => Sys2Proof.Machine.execIOp011100 rs rt immediate s
  | .iOp011101 rs rt immediate => Sys2Proof.Machine.execIOp011101 rs rt immediate s
  | .iOp011110 rs rt immediate => Sys2Proof.Machine.execIOp011110 rs rt immediate s
  | .iOp011111 rs rt immediate => Sys2Proof.Machine.execIOp011111 rs rt immediate s
  | .iOp100000 rs rt immediate => Sys2Proof.Machine.execIOp100000 rs rt immediate s
  | .iOp100001 rs rt immediate => Sys2Proof.Machine.execIOp100001 rs rt immediate s
  | .iOp100010 rs rt immediate => Sys2Proof.Machine.execIOp100010 rs rt immediate s
  | .iOp100011 rs rt immediate => Sys2Proof.Machine.execIOp100011 rs rt immediate s
  | .iOp100100 rs rt immediate => Sys2Proof.Machine.execIOp100100 rs rt immediate s
  | .iOp100101 rs rt immediate => Sys2Proof.Machine.execIOp100101 rs rt immediate s
  | .iOp100110 rs rt immediate => Sys2Proof.Machine.execIOp100110 rs rt immediate s
  | .iOp100111 rs rt immediate => Sys2Proof.Machine.execIOp100111 rs rt immediate s
  | .iOp101000 rs rt immediate => Sys2Proof.Machine.execIOp101000 rs rt immediate s
  | .iOp101001 rs rt immediate => Sys2Proof.Machine.execIOp101001 rs rt immediate s
  | .iOp101010 rs rt immediate => Sys2Proof.Machine.execIOp101010 rs rt immediate s
  | .iOp101011 rs rt immediate => Sys2Proof.Machine.execIOp101011 rs rt immediate s
  | .iOp101100 rs rt immediate => Sys2Proof.Machine.execIOp101100 rs rt immediate s
  | .iOp101101 rs rt immediate => Sys2Proof.Machine.execIOp101101 rs rt immediate s
  | .iOp101110 rs rt immediate => Sys2Proof.Machine.execIOp101110 rs rt immediate s
  | .iOp101111 rs rt immediate => Sys2Proof.Machine.execIOp101111 rs rt immediate s
  | .iOp110000 rs rt immediate => Sys2Proof.Machine.execIOp110000 rs rt immediate s
  | .iOp110001 rs rt immediate => Sys2Proof.Machine.execIOp110001 rs rt immediate s
  | .iOp110010 rs rt immediate => Sys2Proof.Machine.execIOp110010 rs rt immediate s
  | .iOp110011 rs rt immediate => Sys2Proof.Machine.execIOp110011 rs rt immediate s
  | .iOp110100 rs rt immediate => Sys2Proof.Machine.execIOp110100 rs rt immediate s
  | .iOp110101 rs rt immediate => Sys2Proof.Machine.execIOp110101 rs rt immediate s
  | .iOp110110 rs rt immediate => Sys2Proof.Machine.execIOp110110 rs rt immediate s
  | .iOp110111 rs rt immediate => Sys2Proof.Machine.execIOp110111 rs rt immediate s
  | .iOp111000 rs rt immediate => Sys2Proof.Machine.execIOp111000 rs rt immediate s
  | .iOp111001 rs rt immediate => Sys2Proof.Machine.execIOp111001 rs rt immediate s
  | .iOp111010 rs rt immediate => Sys2Proof.Machine.execIOp111010 rs rt immediate s
  | .iOp111011 rs rt immediate => Sys2Proof.Machine.execIOp111011 rs rt immediate s
  | .iOp111100 rs rt immediate => Sys2Proof.Machine.execIOp111100 rs rt immediate s
  | .iOp111101 rs rt immediate => Sys2Proof.Machine.execIOp111101 rs rt immediate s
  | .iOp111110 rs rt immediate => Sys2Proof.Machine.execIOp111110 rs rt immediate s
  | .iOp111111 rs rt immediate => Sys2Proof.Machine.execIOp111111 rs rt immediate s

end Sys2Proof.Machine
end

