-- ==== Sys2Proof/Machine/Step.lean ====
section
/-! DEFINITION. One step: the next call the surroundings make (rules R14, R146). -/

namespace Sys2Proof.Machine

/-- One step. A call that puts a word on the input port runs the instruction the word is; any other is answered, or
raises its condition, beside the block. With no call left, nothing is presented and nothing changes: the ports carry
what they carry (DESIGN CHOICE, log entry 1). -/
def step (s : State) : Host.Outcome State Fault Refusal :=
  match s.pending with
  | [] => .next s
  | c :: rest =>
    match serve c with
    | .evaluate w => exec (decode w) (s.withPending rest)
    | .answer r => .next (deliver r (s.withPending rest))
    | .raising e => .next (raise e (s.withPending rest))

/-- The state with a word placed where the next step takes its word from: first among the calls. -/
def State.withFetchWord (s : State) (_nbits w : Nat) : State :=
  { s with pending := .present (BitVec.ofNat 32 w) :: s.pending }

end Sys2Proof.Machine
end

