-- ==== Sys2Proof/Safety.lean ====
section
/-! DEFINITION. What counts as safe, in the terms claims use: the outcome of a step is a next state, the ports agree as
a combinational block's must (rule R90), and every recorded evaluation is the function of its word (rule R20). -/

namespace Sys2Proof.Machine

/-- The outcome, of a step or of a run, is a next state, neither a fault nor a refusal (rules R60, R121, R127). -/
def GoesOn (o : Host.Outcome State Fault Refusal) : Prop := ∃ t, o = .next t

/-- The output ports are the stated function of the present value of the input port (rule R90). -/
def State.Combinational (s : State) : Prop := s.out = portsOf s.word

/-- A recorded evaluation gives what the block gives for its word, whenever it was made (rules R20, R47). -/
def Result.Faithful : Result → Prop
  | .evaluated w out => out = portsOf w
  | .word _ => True
  | .text _ => True
  | .registerCode _ => True
  | .fieldValues _ => True
  | .raised _ => True

/-- The ports agree and every recorded evaluation is faithful. -/
def State.Sound (s : State) : Prop := s.Combinational ∧ ∀ r ∈ s.results, r.Faithful

end Sys2Proof.Machine
end

