-- ==== Sys2Proof/WellFormed.lean ====
section
/-! DEFINITION. What must hold of a term for it to be meaningful: of an instruction, and of a Format Descriptor
(rules R21, R24). The checks on a register name table stand beside its type, in Config.lean (rule R9). -/

namespace Sys2Proof

/-- Every instruction is well formed: each field has the width of its place in the word by its type (rule R55), and no
encoding is reserved or illegal (rule R60), so there is nothing left to check. -/
def Instr.wellFormed (_ : Instr) : Bool := true

namespace FormatDescriptor

/-- The widths of the fields sum to 32 (rule R24 item 2). -/
def widthsSumTo32 (d : FormatDescriptor) : Bool := (d.fields.map Prod.snd).sum == 32

/-- Each field has the width of its name (rule R8). -/
def widthsAsNamed (d : FormatDescriptor) : Bool := d.fields.all fun f => f.2 == f.1.width

/-- Operands are fields of the same descriptor (rule R24 item 3). -/
def operandsAreFields (d : FormatDescriptor) : Bool := d.operandOrder.all fun n => n ∈ d.fields.map Prod.fst

/-- `op` is no operand of the R kind, and the first operand of the kinds I and J (rule R24 item 4). -/
def opAsKindAsks (d : FormatDescriptor) : Bool :=
  match d.kind with
  | .r => !d.operandOrder.contains .op
  | .i => d.operandOrder.head? == some .op
  | .j => d.operandOrder.head? == some .op

/-- No name stands twice in the fields, and none twice in the operand order (rule R24 item 5). -/
def namesOnce (d : FormatDescriptor) : Bool :=
  decide (d.fields.map Prod.fst).Nodup && decide d.operandOrder.Nodup

/-- The first field is `op:6` (rule R24 item 6). -/
def firstFieldIsOp (d : FormatDescriptor) : Bool := d.fields.head? == some (.op, 6)

/-- The first operand is the place of the mnemonic: `func` for the R kind, `op` for the others (rule R24 item 7). -/
def firstOperandNamesInstruction (d : FormatDescriptor) : Bool :=
  match d.kind with
  | .r => d.operandOrder.head? == some .func
  | .i => d.operandOrder.head? == some .op
  | .j => d.operandOrder.head? == some .op

/-- A descriptor of the shape rules R21 and R24 give. -/
def wellFormed (d : FormatDescriptor) : Bool :=
  d.widthsSumTo32 && d.widthsAsNamed && d.operandsAreFields && d.opAsKindAsks && d.namesOnce && d.firstFieldIsOp
    && d.firstOperandNamesInstruction

end FormatDescriptor

end Sys2Proof
end

