-- ==== Sys2Proof/Certificates/Slice0/Obligations.lean ====
section
/-! DEFINITION. The statements for the provers. Each docstring names the rule of the spec that the statement
formalises; where a clause is the model's own choice, it names the log entry. -/

open Sys2Proof Sys2Proof.Machine

/-! ## The constants -/

/-- The four descriptors are the rows of rule R23's table, and `DESC[s]` is the row whose selector is `s`. -/
def Obligations.DescriptorTableAsGiven : Prop :=
  desc .r = ⟨.r, [(.op, 6), (.rs, 5), (.rt, 5), (.rd, 5), (.shamt, 5), (.func, 6)], [.func, .rd, .rs, .rt]⟩ ∧
  desc .shift = ⟨.r, [(.op, 6), (.rs, 5), (.rt, 5), (.rd, 5), (.shamt, 5), (.func, 6)], [.func, .rs, .rt, .shamt]⟩ ∧
  desc .i = ⟨.i, [(.op, 6), (.rs, 5), (.rt, 5), (.immediate, 16)], [.op, .rt, .rs, .immediate]⟩ ∧
  desc .j = ⟨.j, [(.op, 6), (.target, 26)], [.op, .target]⟩ ∧
  desc .r = descR ∧ desc .shift = descShift ∧ desc .i = descI ∧ desc .j = descJ

/-- The eight items of rule R24, in its order. -/
def Obligations.DescriptorTableInvariants : Prop :=
  ([descR, descShift, descI, descJ].Nodup ∧ ∀ d, (∃ s, desc s = d) ↔ d ∈ [descR, descShift, descI, descJ]) ∧
  (∀ s, ((desc s).fields.map Prod.snd).sum = 32) ∧
  (∀ s, ∀ n ∈ (desc s).operandOrder, n ∈ (desc s).fields.map Prod.fst) ∧
  ((∀ d ∈ [descI, descJ], d.operandOrder.Perm (d.fields.map Prod.fst)) ∧
    ∀ d ∈ [descR, descShift], d.operandOrder.length = 4 ∧ d.fields.length = 6) ∧
  ((∀ d ∈ [descR, descShift], .op ∉ d.operandOrder) ∧ ∀ d ∈ [descI, descJ], d.operandOrder.head? = some .op) ∧
  (∀ s, ((desc s).fields.map Prod.fst).Nodup ∧ (desc s).operandOrder.Nodup) ∧
  (∀ s, (desc s).fields.head? = some (.op, 6)) ∧
  (∀ s, (desc s).operandOrder.head? = some (if (desc s).kind = .r then .func else .op)) ∧
  ([descR, descShift, descI, descJ].map fun d => (d.fields.map Prod.fst).filter fun n => !d.operandOrder.contains n)
    = [[.op, .shamt], [.op, .rd], [], []]

/-- `SHIFT_SET`, in the source's order, and as every function code below 8 except 1 and 5 (rule R25). -/
def Obligations.ShiftSetMembers : Prop :=
  shiftSet = [0b000000#6, 0b000100#6, 0b000011#6, 0b000111#6, 0b000010#6, 0b000110#6] ∧
  shiftSet.map BitVec.toNat = [0, 4, 3, 7, 2, 6] ∧
  (∀ f, f ∈ shiftSet ↔ f.toNat < 8 ∧ f ≠ 1#6 ∧ f ≠ 5#6) ∧
  shiftSet.Nodup ∧ shiftSet.length = 6

/-- `J_SET`, `R_FAMILY_OPCODE`, and the 61 opcodes that select `DESC_I` (rule R26). -/
def Obligations.OpcodesThatSelectDescI : Prop :=
  jSet = [0b000010#6, 0b000011#6] ∧ rFamilyOpcode = 0b000000#6 ∧
  (∀ w, opOf w ∈ jSet → dispatch w = descJ) ∧
  (∀ w, opOf w ≠ rFamilyOpcode → opOf w ∉ jSet → dispatch w = descI) ∧
  (∀ op : BitVec 6, op ≠ rFamilyOpcode ∧ op ∉ jSet ↔ op.toNat = 1 ∨ (4 ≤ op.toNat ∧ op.toNat ≤ 63)) ∧
  (((List.range 64).map (BitVec.ofNat 6)).filter fun op => op ≠ rFamilyOpcode ∧ op ∉ jSet).length = 61

/-- The binary encodings of the two enumerated outputs; `kind == 0b11` is produced for no input (rule R92). -/
def Obligations.OutputCodes : Prop :=
  selCode .r = 0b00#2 ∧ selCode .shift = 0b01#2 ∧ selCode .i = 0b10#2 ∧ selCode .j = 0b11#2 ∧
  kindCode .r = 0b00#2 ∧ kindCode .i = 0b01#2 ∧ kindCode .j = 0b10#2 ∧
  ∀ w, kindCode (portsOf w).kind ≠ 0b11#2

/-- `KIND` (rule R81): its table, that it is the descriptor's kind, that it is not injective, and what it is as a
function of the word, of which it reads the opcode alone. -/
def Obligations.KindOfSelectorAndOfWord : Prop :=
  (kindOf .r = .r ∧ kindOf .shift = .r ∧ kindOf .i = .i ∧ kindOf .j = .j) ∧
  (∀ s, kindOf s = (desc s).kind) ∧
  ¬ Function.Injective kindOf ∧
  (∀ w, (kindOf (classify w) = .r ↔ opOf w = 0#6) ∧
    (kindOf (classify w) = .j ↔ opOf w = 2#6 ∨ opOf w = 3#6) ∧
    (kindOf (classify w) = .i ↔ opOf w ≠ 0#6 ∧ opOf w ≠ 2#6 ∧ opOf w ≠ 3#6)) ∧
  ∀ a b, opOf a = opOf b → kindOf (classify a) = kindOf (classify b)

/-! ## The four outcomes -/

/-- Outcome `SHIFT` (rule R72): exactly the words of opcode 000000 with a function code of the set, by field and by
mask, and the descriptor they get; then the rule's corner cases and its example. -/
def Obligations.ShiftOutcome : Prop :=
  (∀ w, (classify w = .shift ↔ opOf w = 0b000000#6 ∧ funcOf w ∈ shiftSet) ∧
    (classify w = .shift ↔ w &&& 0xFC00003F#32 ∈
      [0x00000000#32, 0x00000002#32, 0x00000003#32, 0x00000004#32, 0x00000006#32, 0x00000007#32]) ∧
    (classify w = .shift → dispatch w = descShift ∧ (dispatch w).kind = .r ∧ (dispatch w).fields = descR.fields ∧
      (dispatch w).operandOrder = [.func, .rs, .rt, .shamt])) ∧
  classify 0x00000000#32 = .shift ∧ classify 0x03FFFFC0#32 = .shift ∧ 1#6 ∉ shiftSet ∧ 5#6 ∉ shiftSet

/-- Outcome `R` (rule R73). -/
def Obligations.ROutcome : Prop :=
  (∀ w, (classify w = .r ↔ opOf w = 0b000000#6 ∧ funcOf w ∉ shiftSet) ∧
    (classify w = .r ↔ opOf w = 0b000000#6 ∧ (funcOf w = 1#6 ∨ funcOf w = 5#6 ∨ 8 ≤ (funcOf w).toNat)) ∧
    (classify w = .r ↔ ∃ f : BitVec 6, f ∉ shiftSet ∧ w &&& 0xFC00003F#32 = f.setWidth 32) ∧
    (classify w = .r → dispatch w = descR ∧ (dispatch w).kind = .r ∧ (dispatch w).fields = descShift.fields ∧
      (dispatch w).operandOrder = [.func, .rd, .rs, .rt])) ∧
  classify 0x00000001#32 = .r ∧ classify 0x00000005#32 = .r ∧ classify 0x00000008#32 = .r ∧
  classify 0x0000003F#32 = .r ∧ classify 0x00000020#32 = .r

/-- Outcome `J` (rule R74): the low 26 bits do not matter. -/
def Obligations.JOutcome : Prop :=
  (∀ w, (classify w = .j ↔ opOf w = 0b000010#6 ∨ opOf w = 0b000011#6) ∧
    (classify w = .j ↔ w &&& 0xFC000000#32 = 0x08000000#32 ∨ w &&& 0xFC000000#32 = 0x0C000000#32) ∧
    (classify w = .j → dispatch w = descJ ∧ (dispatch w).kind = .j ∧ (dispatch w).fields = [(.op, 6), (.target, 26)] ∧
      (dispatch w).operandOrder = [.op, .target])) ∧
  (∀ target, classify (jLayout 0b000010#6 target) = .j ∧ classify (jLayout 0b000011#6 target) = .j) ∧
  classify 0x08000000#32 = .j ∧ classify 0x0BFFFFFF#32 = .j ∧ classify 0x0C000000#32 = .j

/-- Outcome `I` (rule R75), the catch-all: every opcode but three, whatever the other bits. -/
def Obligations.IOutcome : Prop :=
  (∀ w, (classify w = .i ↔ opOf w ≠ 0b000000#6 ∧ opOf w ≠ 0b000010#6 ∧ opOf w ≠ 0b000011#6) ∧
    (classify w = .i ↔ (opOf w).toNat = 1 ∨ (4 ≤ (opOf w).toNat ∧ (opOf w).toNat ≤ 63)) ∧
    (classify w = .i ↔ ∃ op : BitVec 6, op ≠ 0#6 ∧ op ≠ 2#6 ∧ op ≠ 3#6 ∧
      w &&& 0xFC000000#32 = op.setWidth 32 <<< 26) ∧
    (classify w = .i → dispatch w = descI ∧ (dispatch w).kind = .i ∧
      (dispatch w).fields = [(.op, 6), (.rs, 5), (.rt, 5), (.immediate, 16)] ∧
      (dispatch w).operandOrder = [.op, .rt, .rs, .immediate])) ∧
  classify 0x04000000#32 = .i ∧ classify 0x10000000#32 = .i ∧ classify 0xFFFFFFFF#32 = .i ∧
  classify 0x20000000#32 = .i ∧ classify 0x2000003F#32 = .i ∧
  ((List.range 64).filter fun op => classify (BitVec.ofNat 32 (op * 2 ^ 26)) = .i).length = 61

/-- The gate-level form computes `CLASSIFY`, its output bits are the codes of rule R92, and its two enables exclude
each other (rule R76). -/
def Obligations.GateLevelFormComputesClassify : Prop :=
  ∀ w, classifyGates w = classify w ∧
    ¬ (gateRFamily w = true ∧ gateJ w = true) ∧
    ((selCode (classify w))[1] = gateSel1 w ∧ (selCode (classify w))[0] = gateSel0 w) ∧
    ((kindCode (kindOf (classify w)))[1] = gateKind1 w ∧ (kindCode (kindOf (classify w)))[0] = gateKind0 w)

/-- Totality and partition (rule R77): of the four outcome conditions exactly one holds of a word, `CLASSIFY` answers
it, and the classes have the sizes the rule gives. -/
def Obligations.OutcomesPartitionAllWords : Prop :=
  (∀ w : Word, ∃! s : Sel, classify w = s ∧
    match s with
    | .shift => opOf w = 0#6 ∧ funcOf w ∈ shiftSet
    | .r => opOf w = 0#6 ∧ funcOf w ∉ shiftSet
    | .j => opOf w = 2#6 ∨ opOf w = 3#6
    | .i => opOf w ≠ 0#6 ∧ opOf w ≠ 2#6 ∧ opOf w ≠ 3#6) ∧
  (∀ (w : Word) (s : Sel),
    (match s with
    | .shift => opOf w = 0#6 ∧ funcOf w ∈ shiftSet
    | .r => opOf w = 0#6 ∧ funcOf w ∉ shiftSet
    | .j => opOf w = 2#6 ∨ opOf w = 3#6
    | .i => opOf w ≠ 0#6 ∧ opOf w ≠ 2#6 ∧ opOf w ≠ 3#6) → classify w = s) ∧
  Nat.card { w : Word // classify w = .shift } = 6291456 ∧
  Nat.card { w : Word // classify w = .r } = 60817408 ∧
  Nat.card { w : Word // classify w = .j } = 134217728 ∧
  Nat.card { w : Word // classify w = .i } = 4093640704

/-- Independence (rule R78): the opcode decides, with the function code under opcode zero; bits 25 to 6 never matter,
and bits 5 to 0 matter only under opcode zero. -/
def Obligations.ClassifyIgnoresOtherBits : Prop :=
  (∀ a b, opOf a = opOf b → (opOf a ≠ 0#6 ∨ funcOf a = funcOf b) → classify a = classify b) ∧
  (∀ a b, a &&& 0xFC00003F#32 = b &&& 0xFC00003F#32 → classify a = classify b) ∧
  (∀ a b, opOf a ≠ 0#6 → a &&& 0xFC000000#32 = b &&& 0xFC000000#32 → classify a = classify b) ∧
  ∃ a b, a &&& 0xFC000000#32 = b &&& 0xFC000000#32 ∧ opOf a = 0#6 ∧ classify a ≠ classify b

/-- The two maps of rule R58: from the opcode, whatever the 26 bits below it, and from the function code under opcode
000000, whatever the 20 bits between; with the rule's counts. -/
def Obligations.OpcodeAndFunctionCodeMaps : Prop :=
  (∀ (op : BitVec 6) (below : BitVec 26), op ≠ 0#6 →
    classify (jLayout op below) = if op = 2#6 ∨ op = 3#6 then .j else .i) ∧
  (∀ (rs rt rd shamt : BitVec 5) (func : BitVec 6),
    classify (rLayout 0#6 rs rt rd shamt func) =
      if func.toNat < 8 ∧ func.toNat ≠ 1 ∧ func.toNat ≠ 5 then .shift else .r) ∧
  ((List.range 64).filter fun f => classify (BitVec.ofNat 32 f) = .shift).length = 6 ∧
  ((List.range 64).filter fun f => classify (BitVec.ofNat 32 f) = .r).length = 58 ∧
  ((List.range 64).filter fun op => kindOf (classify (BitVec.ofNat 32 (op * 2 ^ 26))) = .r).length = 1 ∧
  ((List.range 64).filter fun op => classify (BitVec.ofNat 32 (op * 2 ^ 26)) = .j).length = 2 ∧
  ((List.range 64).filter fun op => classify (BitVec.ofNat 32 (op * 2 ^ 26)) = .i).length = 61

/-- The mux (rule R91): its output is one of the four constants, two words get the same descriptor exactly when they
have the same selector, equal kinds do not make equal descriptors; then the rule's examples. -/
def Obligations.DispatchIsTheMux : Prop :=
  (∀ w, dispatch w = desc (classify w) ∧ dispatch w ∈ [descR, descShift, descI, descJ]) ∧
  (∀ a b, dispatch a = dispatch b ↔ classify a = classify b) ∧
  (∃ a b, (dispatch a).kind = (dispatch b).kind ∧ dispatch a ≠ dispatch b) ∧
  dispatch 0x00000000#32 = descShift ∧ dispatch 0x00000020#32 = descR

/-- The seven false variants of `95_test_vectors.md` section 2.3 are false of the model. -/
def Obligations.FalseVariantsRefuted : Prop :=
  ¬ (∀ w, opOf w = 0#6 → classify w = .r) ∧
  ¬ (∀ w, opOf w = 0#6 → (funcOf w).toNat < 8 → classify w = .shift) ∧
  ¬ (∀ w, funcOf w = 0#6 → classify w = .shift) ∧
  (¬ (∀ w, opOf w = 1#6 → kindOf (classify w) = .r) ∧ ¬ (∀ w, opOf w = 1#6 → classify w = .j)) ∧
  ¬ (∀ a b, kindOf (classify a) = kindOf (classify b) → (dispatch a).operandOrder = (dispatch b).operandOrder) ∧
  ¬ (∀ w, classify w = .i ↔ funcOf w ≠ 0#6 ∧ funcOf w ≠ 2#6 ∧ funcOf w ≠ 3#6) ∧
  .rd ∉ descShift.operandOrder

/-! ## The encoding -/

/-- Field positions (rule R52): each row of the rule's table, as width, high and low bit, the source's string indices
(rule R11), the mask, and the layouts the field stands in. -/
def Obligations.FieldPositions : Prop :=
  ∀ row ∈ ([(.op, 6, 31, 26, 0, 6, 0xFC000000#32, [.r, .shift, .i, .j]),
      (.rs, 5, 25, 21, 6, 11, 0x03E00000#32, [.r, .shift, .i]), (.rt, 5, 20, 16, 11, 16, 0x001F0000#32, [.r, .shift, .i]),
      (.rd, 5, 15, 11, 16, 21, 0x0000F800#32, [.r, .shift]), (.shamt, 5, 10, 6, 21, 26, 0x000007C0#32, [.r, .shift]),
      (.func, 6, 5, 0, 26, 32, 0x0000003F#32, [.r, .shift]), (.immediate, 16, 15, 0, 16, 32, 0x0000FFFF#32, [.i]),
      (.target, 26, 25, 0, 6, 32, 0x03FFFFFF#32, [.j])] :
      List (FieldName × Nat × Nat × Nat × Nat × Nat × Word × List Sel)),
    match row with
    | (name, width, hi, lo, a, b, mask, sels) =>
      name.width = width ∧ hi + 1 = lo + width ∧ a = 31 - hi ∧ b = 32 - lo ∧
      (∀ s, s ∈ sels ↔ (name, width) ∈ (desc s).fields) ∧
      ∀ w, (field w name).toNat = (w &&& mask).toNat / 2 ^ lo ∧
        (∀ k, k < width → (field w name).getLsbD k = w.getLsbD (lo + k)) ∧
        numeral (substring (formatWord w) a b) = (field w name).toNat

/-- Decode and encode agree: no bit of an instruction is dropped (rules R51, R59). -/
def Obligations.DecodeOfEncode : Prop :=
  ∀ i : Instr, i.wellFormed = true → decode (encode i) = i

/-- Every word is exactly one instruction, the one the decoder reads: the decoder is total and refuses no word
(rule R60). -/
def Obligations.EveryWordIsOneInstruction : Prop :=
  ∀ w : Word, (decode w).wellFormed = true ∧ ∃! i : Instr, encode i = w ∧ decode w = i

/-- The 127 rows partition the words, and a word's row gives its selector (rule R59). -/
def Obligations.OpcodeTablePartitionsWords : Prop :=
  opcodeTable.length = 127 ∧ (opcodeTable.map OpcodeRow.mnemonic).Nodup ∧
  (opcodeTable.filter fun r => r.sel = .shift).length = 6 ∧ (opcodeTable.filter fun r => r.sel = .r).length = 58 ∧
  (opcodeTable.filter fun r => r.sel = .j).length = 2 ∧ (opcodeTable.filter fun r => r.sel = .i).length = 61 ∧
  ∀ w : Word, ∃ r ∈ opcodeTable, r.holds w = true ∧ r.sel = classify w ∧ ∀ q ∈ opcodeTable, q.holds w = true → q = r

/-- The instruction that a word decodes to bears the name of the row the word belongs to (rule R59). -/
def Obligations.DecodedNameIsTheRowsName : Prop :=
  ∀ w : Word, ∀ r ∈ opcodeTable, r.holds w = true → (decode w).mnemonic = r.mnemonic

/-- Words of every family, written out from the opcode table's encodings, decode to their instructions (sanity). -/
def Obligations.SampleWordsDecode : Prop :=
  decode 0b00000000001000100001100100000000#32 = .shiftFunc000000 1#5 2#5 3#5 4#5 ∧
  decode 0b00000011110111011110011011000111#32 = .shiftFunc000111 30#5 29#5 28#5 27#5 ∧
  decode 0b00000001001010100100000000100000#32 = .rFunc100000 9#5 10#5 8#5 0#5 ∧
  decode 0b00000000000111110000011111111111#32 = .rFunc111111 0#5 31#5 0#5 31#5 ∧
  decode 0b00001010101010101010101010101010#32 = .jOp000010 0b10101010101010101010101010#26 ∧
  decode 0b00001100000100000000000000001000#32 = .jOp000011 1048584#26 ∧
  decode 0b00000100000100010000000000000100#32 = .iOp000001 0#5 17#5 4#16 ∧
  decode 0b10001100100010100000000000000000#32 = .iOp100011 4#5 10#5 0#16

/-- A harness that builds the word from four bytes at ascending addresses (rule R43): the value of the word under each
byte order, the default, and the instruction at the head of a sequence of bytes. The last clause, that fewer than four bytes
are refused by name, is the model's choice (log entry 6). -/
def Obligations.WordsFromBytes : Prop :=
  (∀ b0 b1 b2 b3 : Byte, (wordOfBytes .big b0 b1 b2 b3).toNat =
      b0.toNat * 2 ^ 24 + b1.toNat * 2 ^ 16 + b2.toNat * 2 ^ 8 + b3.toNat ∧
    wordOfBytes .little b0 b1 b2 b3 = wordOfBytes .big b3 b2 b1 b0) ∧
  Config.defaultByteOrder = .big ∧
  (∀ (order : ByteOrder) (b0 b1 b2 b3 : Byte) (rest : List Byte),
    decodeBytes order (b0 :: b1 :: b2 :: b3 :: rest) = .ok (decode (wordOfBytes order b0 b1 b2 b3), rest)) ∧
  ∀ (order : ByteOrder) (bytes : List Byte), bytes.length < 4 →
    decodeBytes order bytes = .error (.fewerThanFourBytes bytes)

/-! ## Fields and operands -/

/-- `FIELDS` (rule R95): each field of the descriptor with its value, in the descriptor's order; the concatenation of
the values is the word, for the list and for each of the three layouts; then the rule's example. -/
def Obligations.FieldsConcatenateToTheWord : Prop :=
  (∀ w, fields w = (dispatch w).fields.map fun f => ⟨f.1, field w f.1⟩) ∧
  (∀ w, concatValue (fields w) = w.toNat) ∧
  (∀ w : Word, (opOf w ++ rsOf w ++ rtOf w ++ rdOf w ++ shamtOf w ++ funcOf w).toNat = w.toNat ∧
    (opOf w ++ rsOf w ++ rtOf w ++ immediateOf w).toNat = w.toNat ∧ (opOf w ++ targetOf w).toNat = w.toNat) ∧
  fields 0x2128FFFF#32 = [⟨.op, 8#6⟩, ⟨.rs, 9#5⟩, ⟨.rt, 8#5⟩, ⟨.immediate, 65535#16⟩]

/-- `OPERANDS` (rule R96): the fields named by the operand order, four or two of them, the first the place of the
mnemonic; `rd` is no operand of a `SHIFT` word and `shamt` none of an `R` word; then the rule's examples. -/
def Obligations.OperandsOfAWord : Prop :=
  (∀ w, operands w = (dispatch w).operandOrder.map fun n => ⟨n, field w n⟩) ∧
  (∀ w, (operands w).length = if classify w = .j then 2 else 4) ∧
  (∀ w, (operands w).head? = some
    (if classify w = .r ∨ classify w = .shift then ⟨.func, funcOf w⟩ else ⟨.op, opOf w⟩)) ∧
  (∀ w, classify w = .shift → ∀ v ∈ operands w, v.name ≠ .rd) ∧
  (∀ w, classify w = .r → ∀ v ∈ operands w, v.name ≠ .shamt) ∧
  operands 0x012A4020#32 = [⟨.func, 32#6⟩, ⟨.rd, 8#5⟩, ⟨.rs, 9#5⟩, ⟨.rt, 10#5⟩] ∧
  operands 0x00094080#32 = [⟨.func, 0#6⟩, ⟨.rs, 0#5⟩, ⟨.rt, 9#5⟩, ⟨.shamt, 2#5⟩] ∧
  operands 0x2128FFFF#32 = [⟨.op, 8#6⟩, ⟨.rt, 8#5⟩, ⟨.rs, 9#5⟩, ⟨.immediate, 65535#16⟩] ∧
  operands 0x08100000#32 = [⟨.op, 2#6⟩, ⟨.target, 1048576#26⟩]

/-- Two words with the same selector are decomposed and ordered identically (rule R97). -/
def Obligations.DecompositionFollowsSelector : Prop :=
  ∀ a b, classify a = classify b →
    (fields a).map FieldValue.name = (fields b).map FieldValue.name ∧
    (operands a).map FieldValue.name = (operands b).map FieldValue.name ∧
    (operands a).length = (operands b).length

/-- The keys for the external mnemonic table (rule R93): the opcode always, the function code exactly under opcode
zero; the `func` port carries `word[5:0]` in any case; and whatever the table, its answer depends on the keys alone. -/
def Obligations.MnemonicKeys : Prop :=
  (∀ w, (portsOf w).opcode = opOf w ∧ (portsOf w).func = funcOf w ∧
    ((portsOf w).funcValid = true ↔ opOf w = 0b000000#6) ∧
    (portsOf w).functionKey = if opOf w = 0#6 then some (funcOf w) else none) ∧
  ∀ (M : Type) (table : BitVec 6 → Option (BitVec 6) → M) (a b : Word), opOf a = opOf b →
    (opOf a = 0#6 → funcOf a = funcOf b) → resolveMnemonic table (portsOf a) = resolveMnemonic table (portsOf b)

/-! ## The instructions: each completes from every state, with this next state and no other effect -/

/-- The six `SHIFT_func_*` instructions (rules R72, R90): the word stands on the input port, each output port has the
value given, one result is recorded, and the calls to come are as before. That State holds the calls to come and the
results is the model's choice (log entries 1 and 3). -/
def Obligations.ShiftWordsComplete : Prop :=
  ∀ row ∈ ([(0b000000#6, Instr.shiftFunc000000), (0b000010#6, Instr.shiftFunc000010), (0b000011#6, Instr.shiftFunc000011),
      (0b000100#6, Instr.shiftFunc000100), (0b000110#6, Instr.shiftFunc000110), (0b000111#6, Instr.shiftFunc000111)] :
      List (BitVec 6 × (BitVec 5 → BitVec 5 → BitVec 5 → BitVec 5 → Instr))),
  ∀ (rs rt rd shamt : BitVec 5) (s : State), ∃ out : Outputs,
    out = { sel := .shift, kind := .r, desc := descShift, opcode := 0#6, func := row.1, funcValid := true } ∧
    exec (row.2 rs rt rd shamt) s = .next
      { word := rLayout 0#6 rs rt rd shamt row.1, out := out, pending := s.pending,
        results := s.results ++ [.evaluated (rLayout 0#6 rs rt rd shamt row.1) out] }

/-- The 58 `R_func_*` instructions (rules R73, R90; log entries 1 and 3). -/
def Obligations.RWordsComplete : Prop :=
  ∀ row ∈ ([(0b000001#6, Instr.rFunc000001), (0b000101#6, Instr.rFunc000101), (0b001000#6, Instr.rFunc001000), (0b001001#6,
      Instr.rFunc001001), (0b001010#6, Instr.rFunc001010), (0b001011#6, Instr.rFunc001011), (0b001100#6,
      Instr.rFunc001100), (0b001101#6, Instr.rFunc001101), (0b001110#6, Instr.rFunc001110), (0b001111#6,
      Instr.rFunc001111), (0b010000#6, Instr.rFunc010000), (0b010001#6, Instr.rFunc010001), (0b010010#6,
      Instr.rFunc010010), (0b010011#6, Instr.rFunc010011), (0b010100#6, Instr.rFunc010100), (0b010101#6,
      Instr.rFunc010101), (0b010110#6, Instr.rFunc010110), (0b010111#6, Instr.rFunc010111), (0b011000#6,
      Instr.rFunc011000), (0b011001#6, Instr.rFunc011001), (0b011010#6, Instr.rFunc011010), (0b011011#6,
      Instr.rFunc011011), (0b011100#6, Instr.rFunc011100), (0b011101#6, Instr.rFunc011101), (0b011110#6,
      Instr.rFunc011110), (0b011111#6, Instr.rFunc011111), (0b100000#6, Instr.rFunc100000), (0b100001#6,
      Instr.rFunc100001), (0b100010#6, Instr.rFunc100010)]
    ++ [(0b100011#6, Instr.rFunc100011), (0b100100#6, Instr.rFunc100100), (0b100101#6, Instr.rFunc100101), (0b100110#6,
      Instr.rFunc100110), (0b100111#6, Instr.rFunc100111), (0b101000#6, Instr.rFunc101000), (0b101001#6,
      Instr.rFunc101001), (0b101010#6, Instr.rFunc101010), (0b101011#6, Instr.rFunc101011), (0b101100#6,
      Instr.rFunc101100), (0b101101#6, Instr.rFunc101101), (0b101110#6, Instr.rFunc101110), (0b101111#6,
      Instr.rFunc101111), (0b110000#6, Instr.rFunc110000), (0b110001#6, Instr.rFunc110001), (0b110010#6,
      Instr.rFunc110010), (0b110011#6, Instr.rFunc110011), (0b110100#6, Instr.rFunc110100), (0b110101#6,
      Instr.rFunc110101), (0b110110#6, Instr.rFunc110110), (0b110111#6, Instr.rFunc110111), (0b111000#6,
      Instr.rFunc111000), (0b111001#6, Instr.rFunc111001), (0b111010#6, Instr.rFunc111010), (0b111011#6,
      Instr.rFunc111011), (0b111100#6, Instr.rFunc111100), (0b111101#6, Instr.rFunc111101), (0b111110#6,
      Instr.rFunc111110), (0b111111#6, Instr.rFunc111111)] :
      List (BitVec 6 × (BitVec 5 → BitVec 5 → BitVec 5 → BitVec 5 → Instr))),
  ∀ (rs rt rd shamt : BitVec 5) (s : State), ∃ out : Outputs,
    out = { sel := .r, kind := .r, desc := descR, opcode := 0#6, func := row.1, funcValid := true } ∧
    exec (row.2 rs rt rd shamt) s = .next
      { word := rLayout 0#6 rs rt rd shamt row.1, out := out, pending := s.pending,
        results := s.results ++ [.evaluated (rLayout 0#6 rs rt rd shamt row.1) out] }

/-- The two `J_op_*` instructions (rules R74, R90; log entries 1 and 3). The `func` port carries the word's low six bits, not valid. -/
def Obligations.JWordsComplete : Prop :=
  ∀ row ∈ ([(0b000010#6, Instr.jOp000010), (0b000011#6, Instr.jOp000011)] : List (BitVec 6 × (BitVec 26 → Instr))),
  ∀ (target : BitVec 26) (s : State), ∃ out : Outputs,
    out = { sel := .j, kind := .j, desc := descJ, opcode := row.1, func := target.setWidth 6, funcValid := false } ∧
    exec (row.2 target) s = .next
      { word := jLayout row.1 target, out := out, pending := s.pending,
        results := s.results ++ [.evaluated (jLayout row.1 target) out] }

/-- The 61 `I_op_*` instructions (rules R75, R90; log entries 1 and 3). The `func` port carries the word's low six bits, not valid. -/
def Obligations.IWordsComplete : Prop :=
  ∀ row ∈ ([(0b000001#6, Instr.iOp000001), (0b000100#6, Instr.iOp000100), (0b000101#6, Instr.iOp000101), (0b000110#6,
      Instr.iOp000110), (0b000111#6, Instr.iOp000111), (0b001000#6, Instr.iOp001000), (0b001001#6, Instr.iOp001001),
      (0b001010#6, Instr.iOp001010), (0b001011#6, Instr.iOp001011), (0b001100#6, Instr.iOp001100), (0b001101#6,
      Instr.iOp001101), (0b001110#6, Instr.iOp001110), (0b001111#6, Instr.iOp001111), (0b010000#6, Instr.iOp010000),
      (0b010001#6, Instr.iOp010001), (0b010010#6, Instr.iOp010010), (0b010011#6, Instr.iOp010011), (0b010100#6,
      Instr.iOp010100), (0b010101#6, Instr.iOp010101), (0b010110#6, Instr.iOp010110), (0b010111#6, Instr.iOp010111),
      (0b011000#6, Instr.iOp011000), (0b011001#6, Instr.iOp011001), (0b011010#6, Instr.iOp011010), (0b011011#6,
      Instr.iOp011011), (0b011100#6, Instr.iOp011100), (0b011101#6, Instr.iOp011101), (0b011110#6, Instr.iOp011110),
      (0b011111#6, Instr.iOp011111)]
    ++ [(0b100000#6, Instr.iOp100000), (0b100001#6, Instr.iOp100001), (0b100010#6, Instr.iOp100010), (0b100011#6,
      Instr.iOp100011), (0b100100#6, Instr.iOp100100), (0b100101#6, Instr.iOp100101), (0b100110#6, Instr.iOp100110),
      (0b100111#6, Instr.iOp100111), (0b101000#6, Instr.iOp101000), (0b101001#6, Instr.iOp101001), (0b101010#6,
      Instr.iOp101010), (0b101011#6, Instr.iOp101011), (0b101100#6, Instr.iOp101100), (0b101101#6, Instr.iOp101101),
      (0b101110#6, Instr.iOp101110), (0b101111#6, Instr.iOp101111), (0b110000#6, Instr.iOp110000), (0b110001#6,
      Instr.iOp110001), (0b110010#6, Instr.iOp110010), (0b110011#6, Instr.iOp110011), (0b110100#6, Instr.iOp110100),
      (0b110101#6, Instr.iOp110101), (0b110110#6, Instr.iOp110110), (0b110111#6, Instr.iOp110111), (0b111000#6,
      Instr.iOp111000), (0b111001#6, Instr.iOp111001), (0b111010#6, Instr.iOp111010), (0b111011#6, Instr.iOp111011),
      (0b111100#6, Instr.iOp111100)]
    ++ [(0b111101#6, Instr.iOp111101), (0b111110#6, Instr.iOp111110), (0b111111#6, Instr.iOp111111)] :
      List (BitVec 6 × (BitVec 5 → BitVec 5 → BitVec 16 → Instr))),
  ∀ (rs rt : BitVec 5) (immediate : BitVec 16) (s : State), ∃ out : Outputs,
    out = { sel := .i, kind := .i, desc := descI, opcode := row.1, func := immediate.setWidth 6, funcValid := false } ∧
    exec (row.2 rs rt immediate) s = .next
      { word := iLayout row.1 rs rt immediate, out := out, pending := s.pending,
        results := s.results ++ [.evaluated (iLayout row.1 rs rt immediate) out] }

/-- Every instruction's meaning, written row by row, gives what the algorithm of rule R70 and the port table of rule
R90 give for its word; and it changes nothing but the ports and the record of results (log entry 3). -/
def Obligations.MeaningsRefineClassify : Prop :=
  ∀ (i : Instr) (s : State), exec i s = .next
    { word := encode i, out := portsOf (encode i), pending := s.pending,
      results := s.results ++ [.evaluated (encode i) (portsOf (encode i))] }

/-! ## The machine -/

/-- A step on a presented word runs the instruction it decodes to, on the state without that call. The queue the word
is taken from is the model's (log entry 1). -/
def Obligations.StepRunsDecodedInstruction : Prop :=
  ∀ (s : State) (w : Word) (rest : List Call), s.pending = .present w :: rest →
    step s = exec (decode w) { s with pending := rest }

/-- A word placed where the machine fetches is run by the very next step, and nothing is lost (log entries 1
and 11). -/
def Obligations.FetchedWordRunsNext : Prop :=
  ∀ (s : State) (n : Nat), n < 2 ^ 32 →
    decodeTableWord 32 n = some (decode (BitVec.ofNat 32 n)) ∧
    step (s.withFetchWord 32 n) = exec (decode (BitVec.ofNat 32 n)) s

/-- From decoder and meanings together: a step on a presented word leaves the word on the input port and on each
output port what the port table of rule R90 gives for it. The queue and the record are the model's (log entries 1
and 3). -/
def Obligations.PortsFollowPresentedWord : Prop :=
  ∀ (s : State) (w : Word) (rest : List Call), s.pending = .present w :: rest →
    ∃ t, step s = .next t ∧ t.word = w ∧ t.out.sel = classify w ∧ t.out.kind = kindOf (classify w) ∧
      t.out.desc = desc (classify w) ∧ t.out.opcode = opOf w ∧ t.out.func = funcOf w ∧
      (t.out.funcValid = true ↔ opOf w = 0b000000#6) ∧ t.pending = rest ∧ t.results = s.results ++ [.evaluated w t.out]

/-- No step faults or refuses (rules R121, R127): from every state a step gives a next state, in which the call at the
head is served and its result, a function of the call alone, recorded. That an empty queue leaves all as it is, is the
model's choice (log entry 1). -/
def Obligations.EveryStepServesOneCall : Prop :=
  ∀ s : State, ∃ t, step s = .next t ∧ t.pending = s.pending.tail ∧
    t.results = s.results ++ (s.pending.head?.map resultOf).toList

/-- Invariant (rules R20, R90): the output ports stay the function of the input port, and every recorded evaluation
the function of its word. The step with no call left is the model's choice (log entry 1), as are the queue and the
record (log entries 1 and 3). -/
def Obligations.StepKeepsPortsSound : Prop :=
  ∀ s t : State, s.Sound → step s = .next t → t.Sound

/-- The invariant holds at reset. The word on the input port there is the model's choice (log entry 2). -/
def Obligations.ResetIsSound : Prop := State.reset.Sound

/-- A program's outcome is the sequence of its calls' results, each a function of its own call (rule R146): as many
steps as there are calls serve them all, from every state. The queue and the record are the model's (log entries 1
and 3). -/
def Obligations.RunAnswersEveryCallInOrder : Prop :=
  ∀ s : State, ∃ t, Host.Core.run core s.pending.length s = .next t ∧ t.pending = [] ∧
    t.results = s.results ++ s.pending.map resultOf

/-- No run of any length faults or refuses, from any state, and it keeps the invariant. For the steps that serve a call
this is rules R121 and R127. A run longer than the queue takes steps with nothing to present: the spec has no such step,
and that the model goes on there is its choice (log entry 1). The queue and the record are the model's too (log entries
1 and 3). -/
def Obligations.RunsNeverStop : Prop :=
  ∀ (s : State) (n : Nat), GoesOn (Host.Core.run core n s) ∧
    ∀ t : State, s.Sound → Host.Core.run core n s = .next t → t.Sound

/-- A word handed over as text, as an integer or as four bytes reaches the block as the word it denotes, the outputs are
that word's, and the evaluation is what the caller gets (rules R43, R90, R103, R105, R146); a failed conversion reaches
the caller with the ports as they were. The queue, the record, and that these calls drive the ports are the model's
choice (log entries 1, 3 and 9). -/
def Obligations.OtherFormsOfAWordReachTheBlock : Prop :=
  (∀ (s : State) (text : Text) (rest : List Call), s.pending = .classifyText text :: rest → ∃ t, step s = .next t ∧
    t.pending = rest ∧
    (∀ d, classifyText text = .ok d → parseWord text = .ok t.word ∧ t.out.desc = d ∧ t.out = portsOf t.word ∧
      t.results = s.results ++ [.evaluated t.word t.out]) ∧
    (∀ e, classifyText text = .error e →
      t.word = s.word ∧ t.out = s.out ∧ t.results = s.results ++ [.raised e])) ∧
  (∀ (s : State) (n : Int) (rest : List Call), s.pending = .classifyInteger n :: rest → ∃ t, step s = .next t ∧
    t.pending = rest ∧
    (0 ≤ n → n < 2 ^ 32 → (t.word.toNat : Int) = n ∧ t.out = portsOf t.word ∧
      t.results = s.results ++ [.evaluated t.word t.out]) ∧
    (n < 0 ∨ n ≥ 2 ^ 32 → t.word = s.word ∧ t.out = s.out ∧
      t.results = s.results ++ [.raised (.invalidEncodingLength (.integer n))])) ∧
  ∀ (s : State) (order : ByteOrder) (b0 b1 b2 b3 : Byte) (rest : List Call),
    s.pending = .presentBytes order b0 b1 b2 b3 :: rest → ∃ t, step s = .next t ∧
      t.pending = rest ∧ t.word = wordOfBytes order b0 b1 b2 b3 ∧ t.out = portsOf t.word ∧
      t.results = s.results ++ [.evaluated t.word t.out]

/-- No later call can observe that an earlier one happened (rules R20, R33, R47): two states about to serve the same
call, whatever else they hold, record the same result, and where the call puts a word on the block, the same ports. -/
def Obligations.ResultIndependentOfHistory : Prop :=
  ∀ (s s' : State) (c : Call) (rest rest' : List Call), s.pending = c :: rest → s'.pending = c :: rest' →
    ∃ t t', step s = .next t ∧ step s' = .next t' ∧ t.results.getLast? = t'.results.getLast? ∧
      t.results.getLast? = some (resultOf c) ∧
      ∀ w o, resultOf c = .evaluated w o → t.word = w ∧ t'.word = w ∧ t.out = o ∧ t'.out = o

/-- What raising does (rules R124, R125): the caller receives the condition and nothing else changes; a call with a
good argument after the failure gives exactly what it gives without it. -/
def Obligations.FailedCallLeavesNothingBehind : Prop :=
  ∀ (s : State) (c d : Call) (rest : List Call) (e : ErrorCondition), s.pending = c :: d :: rest →
    resultOf c = .raised e →
    step s = .next { s with pending := d :: rest, results := s.results ++ [.raised e] } ∧
    ∃ t u, Host.Core.run core 2 s = .next t ∧ step { s with pending := d :: rest } = .next u ∧
      t.word = u.word ∧ t.out = u.out ∧ t.pending = u.pending ∧
      t.results = s.results ++ [.raised e, resultOf d] ∧ u.results = s.results ++ [resultOf d]

/-- An adapter or a helper stands beside the block (rule R110): serving it changes no port, and it answers what its
operation gives for its own argument (rules R94 to R96, R100, R102, R105, R106, R108). That `FIELDS` and `OPERANDS` are
answered without driving the block's port is the model's choice (log entry 9), and so are the queue and the record (log
entries 1 and 3). -/
def Obligations.AdaptersLeavePortsUnchanged : Prop :=
  (∀ (s : State) (rest : List Call) (text : Text) (w : Word) (n : Int) (name : FieldName),
    ∀ c ∈ [Call.parseWord text, .formatWord w, .wordOfNat n, .render n, .parseReg text, .field w name, .fields w,
      .operands w], s.pending = c :: rest →
      step s = .next { s with pending := rest, results := s.results ++ [resultOf c] }) ∧
  (∀ text, (∀ w, resultOf (.parseWord text) = .word w ↔ parseWord text = .ok w) ∧
    ∀ e, resultOf (.parseWord text) = .raised e ↔ parseWord text = .error e) ∧
  (∀ w, resultOf (.formatWord w) = .text (formatWord w)) ∧
  (∀ n, (∀ w, resultOf (.wordOfNat n) = .word w ↔ wordOfNat n = .ok w) ∧
    ∀ e, resultOf (.wordOfNat n) = .raised e ↔ wordOfNat n = .error e) ∧
  (∀ n, (∀ x, resultOf (.render n) = .text x ↔ render Config.regNames n = .ok x) ∧
    ∀ e, resultOf (.render n) = .raised e ↔ render Config.regNames n = .error e) ∧
  (∀ text, resultOf (.parseReg text) = .registerCode (parseReg Config.regNames text)) ∧
  (∀ w name, resultOf (.field w name) = .fieldValues [⟨name, field w name⟩]) ∧
  (∀ w, resultOf (.fields w) = .fieldValues (fields w)) ∧
  ∀ w, resultOf (.operands w) = .fieldValues (operands w)

/-- With no call left nothing changes. The model's choice (log entry 1). -/
def Obligations.IdleStepChangesNothing : Prop :=
  ∀ s : State, s.pending = [] → step s = .next s

/-- An evaluation made at once after reset gives what one made at any later time gives (rule R140). -/
def Obligations.FirstEvaluationLikeAnyOther : Prop :=
  ∀ (s : State) (n : Nat), ∃ t u, step (State.reset.withFetchWord 32 n) = .next t ∧
    step (s.withFetchWord 32 n) = .next u ∧ t.word = u.word ∧ t.out = u.out ∧
    t.results.getLast? = u.results.getLast?

/-! ## The host adapters -/

/-- `PARSEWORD` (rule R100, and rule R123 for the order): a string of another length raises `InvalidEncodingLength`; of
the 32-character strings, one with a bad character raises `InvalidBitCharacter` at the least offending index, and any
other gives the word whose bit `31 - i` is 1 exactly where character `i` is `'1'`; then the rule's example. -/
def Obligations.ParseWordOutcomes : Prop :=
  (∀ t : Text, t.length ≠ 32 → parseWord t = .error (.invalidEncodingLength (.text t))) ∧
  (∀ (t : Text) (i : Nat) (h : i < t.length), t.length = 32 → t[i] ≠ '0' → t[i] ≠ '1' →
    (∀ (j : Nat) (hj : j < i), t[j] = '0' ∨ t[j] = '1') → parseWord t = .error (.invalidBitCharacter t i)) ∧
  (∀ t : Text, t.length = 32 → (∀ c ∈ t, c = '0' ∨ c = '1') →
    ∃ w, parseWord t = .ok w ∧ ∀ i, i < 32 → (w.getLsbD (31 - i) = true ↔ t[i]? = some '1')) ∧
  parseWord "00000000000000000000000000100000".toList = .ok 0x00000020#32

/-- The value law of `PARSEWORD` (rule R101): the word's value is the string's value as a binary numeral; `PARSEWORD` is
injective on the strings it accepts, and onto. -/
def Obligations.ParseWordValueLaw : Prop :=
  (∀ (t : Text) (w : Word), parseWord t = .ok w →
    w.toNat = ∑ i ∈ Finset.range 32, (if t[i]? = some '1' then 1 else 0) * 2 ^ (31 - i)) ∧
  (∀ (t t' : Text) (w : Word), parseWord t = .ok w → parseWord t' = .ok w → t = t') ∧
  ∀ w : Word, ∃ t, parseWord t = .ok w

/-- `FORMATWORD` (rule R102): character `i` is bit `31 - i`, and it inverts `PARSEWORD` on both sides. -/
def Obligations.FormatWordInvertsParseWord : Prop :=
  (∀ w : Word, (formatWord w).length = 32 ∧
    ∀ i, i < 32 → (formatWord w)[i]? = some (if w.getLsbD (31 - i) = true then '1' else '0')) ∧
  (∀ w : Word, parseWord (formatWord w) = .ok w) ∧
  ∀ (t : Text) (w : Word), parseWord t = .ok w → formatWord w = t

/-- Bit order (rule R42): a word's value is the sum of its bits' weights, character 0 of its text is bit 31 and
character 31 is bit 0, and an accepted string denotes the word whose value is the string's as a binary numeral. -/
def Obligations.BitOrderOfTextAndInteger : Prop :=
  (∀ w : Word, w.toNat = ∑ i ∈ Finset.range 32, (if w.getLsbD i = true then 1 else 0) * 2 ^ i) ∧
  (∀ w : Word, ((formatWord w)[0]? = some '1' ↔ w.getLsbD 31 = true) ∧
    ((formatWord w)[31]? = some '1' ↔ w.getLsbD 0 = true)) ∧
  ∀ (t : Text) (w : Word), t.length = 32 → (∀ c ∈ t, c = '0' ∨ c = '1') →
    (parseWord t = .ok w ↔ numeral t = w.toNat)

/-- `CLASSIFYTEXT` (rule R103): the error of `PARSEWORD` passes to the caller, an accepted string gives its word's
descriptor, on accepted strings the source's string-slice algorithm agrees, and the string of 32 zeros gives
`DESC_SHIFT`. -/
def Obligations.ClassifyTextOutcomes : Prop :=
  (∀ (t : Text) (e : ErrorCondition), parseWord t = .error e → classifyText t = .error e) ∧
  (∀ (t : Text) (w : Word), parseWord t = .ok w → classifyText t = .ok (dispatch w)) ∧
  (∀ (t : Text) (w : Word), parseWord t = .ok w → classifyText t = .ok (classifySlices t)) ∧
  classifyText (List.replicate 32 '0') = .ok descShift

/-- `WORDOFNAT` (rule R105): an integer outside 0 to 2^32 - 1 raises, any other gives the word of that value; the test
cannot fail on a 32-bit value; then the rule's corner cases and example. -/
def Obligations.WordOfNatOutcomes : Prop :=
  (∀ n : Int, n < 0 ∨ n ≥ 2 ^ 32 → wordOfNat n = .error (.invalidEncodingLength (.integer n))) ∧
  (∀ n : Int, 0 ≤ n → n < 2 ^ 32 → ∃ w, wordOfNat n = .ok w ∧ (w.toNat : Int) = n) ∧
  (∀ w : Word, wordOfNat w.toNat = .ok w) ∧
  wordOfNat 0 = .ok 0x00000000#32 ∧ wordOfNat 4294967295 = .ok 0xFFFFFFFF#32 ∧
  wordOfNat 4294967296 = .error (.invalidEncodingLength (.integer 4294967296)) ∧
  wordOfNat (-1) = .error (.invalidEncodingLength (.integer (-1))) ∧
  wordOfNat 32 = .ok 0x00000020#32 ∧ dispatch 0x00000020#32 = descR

/-- `RENDER` (rules R106, R107), under every admissible name table: a code outside 0 to 31 and the reserved codes 26 and
27 raise `UnknownRegisterCode`; every other code gives the sigil and its name; 29 gives `"$sp"`. -/
def Obligations.RenderOutcomes : Prop :=
  ∀ names : Config.RegNameTable,
    (∀ c : Int, c < 0 ∨ c > 31 ∨ c = 26 ∨ c = 27 → render names c = .error (.unknownRegisterCode c)) ∧
    (∀ c : Int, 0 ≤ c → c ≤ 31 → c ≠ 26 → c ≠ 27 →
      ∃ n, names.name c.toNat = some n ∧ render names c = .ok ('$' :: n)) ∧
    render names 29 = .ok "$sp".toList

/-- `PARSEREG` and the round trip (rule R108), under every admissible name table: it answers a code exactly on the string
`RENDER` gives for it, and none on any other string; so rendering and parsing back recovers each of the 30 named
codes. -/
def Obligations.RegisterNameRoundTrip : Prop :=
  ∀ names : Config.RegNameTable,
    (∀ (t : Text) (c : Fin 32), parseReg names t = some c ↔ render names (c.val : Int) = .ok t) ∧
    (∀ t : Text, (∀ c : Fin 32, render names (c.val : Int) ≠ .ok t) → parseReg names t = none) ∧
    ∀ c : Fin 32, c.val ≠ 26 → c.val ≠ 27 →
      ∃ t, render names (c.val : Int) = .ok t ∧ parseReg names t = some c

/-- What the spec fixes of `REG_NAME` (rules R9, R34), of every admissible table and so of the machine's own. -/
def Obligations.RegisterNamesConstrained : Prop :=
  ∀ names : Config.RegNameTable,
    names.name 29 = some "sp".toList ∧ names.name 26 = none ∧ names.name 27 = none ∧
    (∀ c, c < 32 → c ≠ 26 → c ≠ 27 → ∃ n, names.name c = some n ∧ n ≠ [] ∧ '$' ∉ n) ∧
    ∀ (c d : Nat) (n : Text), names.name c = some n → names.name d = some n → c = d

/-- The three error conditions (rule R120): which call raises which condition, with what payload, exactly; the core and
the helpers raise none (rule R121). -/
def Obligations.CallsThatRaise : Prop :=
  (∀ (c : Call) (e : ErrorCondition), resultOf c = .raised e ↔
    ((∃ t : Text, (c = .classifyText t ∨ c = .parseWord t) ∧ t.length ≠ 32 ∧ e = .invalidEncodingLength (.text t)) ∨
     (∃ n : Int, (c = .classifyInteger n ∨ c = .wordOfNat n) ∧ (n < 0 ∨ n ≥ 2 ^ 32) ∧
       e = .invalidEncodingLength (.integer n)) ∨
     (∃ (t : Text) (i : Nat), (c = .classifyText t ∨ c = .parseWord t) ∧ t.length = 32 ∧
       (∃ x, t[i]? = some x ∧ x ≠ '0' ∧ x ≠ '1') ∧ (∀ j, j < i → t[j]? = some '0' ∨ t[j]? = some '1') ∧
       e = .invalidBitCharacter t i) ∨
     (∃ n : Int, c = .render n ∧ (n < 0 ∨ n > 31 ∨ n = 26 ∨ n = 27) ∧ e = .unknownRegisterCode n))) ∧
  (∀ x, ErrorCondition.code (.invalidEncodingLength x) = 1) ∧
  (∀ t i, ErrorCondition.code (.invalidBitCharacter t i) = 2) ∧
  ∀ n, ErrorCondition.code (.unknownRegisterCode n) = 3
end

