-- ==== Sys2Proof/Laws/Adapters.lean ====
section
/-! SUPPORT. The host adapters: what each answers in each of its cases, and what every admissible name table gives
(rules R9, R100, R105, R106). -/

namespace Sys2Proof.Machine

/-! ## Text -/

theorem isBitChar_iff (c : Char) : isBitChar c = true ↔ c = '0' ∨ c = '1' := by
  simp [isBitChar]

/-- The length is tested first (rule R123). -/
theorem parseWord_of_length {t : Text} (h : t.length ≠ 32) :
    parseWord t = .error (.invalidEncodingLength (.text t)) := by
  rw [parseWord, if_neg h]

/-- A string of the right length whose characters are all bits is accepted. -/
theorem parseWord_of_bits {t : Text} (h : t.length = 32) (hbits : ∀ c ∈ t, c = '0' ∨ c = '1') :
    parseWord t = .ok (BitVec.ofNat 32 (numeral t)) := by
  have none_bad : t.findIdx? (fun c => !isBitChar c) = none := by
    simpa [List.findIdx?_eq_none_iff, isBitChar_iff] using hbits
  rw [parseWord, if_pos h, none_bad]

/-- What an accepted string is. -/
theorem parseWord_eq_ok {t : Text} {w : Word} (h : parseWord t = .ok w) :
    t.length = 32 ∧ (∀ c ∈ t, c = '0' ∨ c = '1') ∧ w = BitVec.ofNat 32 (numeral t) := by
  unfold parseWord at h
  split at h
  · rename_i hlen
    split at h
    · cases h
    · rename_i hnone
      refine ⟨hlen, ?_, (Except.ok.inj h).symm⟩
      simpa [List.findIdx?_eq_none_iff, isBitChar_iff] using hnone
  · cases h

/-! ## Integers -/

theorem wordOfNat_of_fits {n : Int} (h0 : 0 ≤ n) (h1 : n < 2 ^ 32) :
    wordOfNat n = .ok (BitVec.ofNat 32 n.toNat) := by
  rw [wordOfNat, if_neg (by omega)]

theorem wordOfNat_of_not {n : Int} (h : n < 0 ∨ n ≥ 2 ^ 32) :
    wordOfNat n = .error (.invalidEncodingLength (.integer n)) := by
  rw [wordOfNat, if_pos h]

/-! ## Register references -/

theorem render_of_name {names : Config.RegNameTable} {c : Int} {n : Text} (h0 : 0 ≤ c) (h1 : c ≤ 31)
    (h : names.name c.toNat = some n) : render names c = .ok ('$' :: n) := by
  rw [render, if_neg (by omega), h]

theorem render_of_no_name {names : Config.RegNameTable} {c : Int} (h : names.name c.toNat = none) :
    render names c = .error (.unknownRegisterCode c) := by
  rw [render, h]
  split <;> rfl

theorem render_of_outside {names : Config.RegNameTable} {c : Int} (h : c < 0 ∨ c > 31) :
    render names c = .error (.unknownRegisterCode c) := by
  rw [render, if_pos h]

end Sys2Proof.Machine
end

