-- ==== Sys2Proof/Laws/Encoding.lean ====
section
/-! SUPPORT. What the layouts hold, as numbers: the value of each field of a word (rule R52), the value of each layout
(rule R51), and that a field of a layout is read back from its place. -/

namespace Sys2Proof

/-! ## Fields as numbers -/

theorem opOf_toNat (w : Word) : (opOf w).toNat = w.toNat / 2 ^ 26 := by
  have := w.isLt
  simp only [opOf, BitVec.extractLsb'_toNat, Nat.shiftRight_eq_div_pow]
  omega

theorem rsOf_toNat (w : Word) : (rsOf w).toNat = w.toNat / 2 ^ 21 % 2 ^ 5 := by
  simp only [rsOf, BitVec.extractLsb'_toNat, Nat.shiftRight_eq_div_pow]

theorem rtOf_toNat (w : Word) : (rtOf w).toNat = w.toNat / 2 ^ 16 % 2 ^ 5 := by
  simp only [rtOf, BitVec.extractLsb'_toNat, Nat.shiftRight_eq_div_pow]

theorem rdOf_toNat (w : Word) : (rdOf w).toNat = w.toNat / 2 ^ 11 % 2 ^ 5 := by
  simp only [rdOf, BitVec.extractLsb'_toNat, Nat.shiftRight_eq_div_pow]

theorem shamtOf_toNat (w : Word) : (shamtOf w).toNat = w.toNat / 2 ^ 6 % 2 ^ 5 := by
  simp only [shamtOf, BitVec.extractLsb'_toNat, Nat.shiftRight_eq_div_pow]

theorem funcOf_toNat (w : Word) : (funcOf w).toNat = w.toNat % 2 ^ 6 := by
  simp only [funcOf, BitVec.extractLsb'_toNat, Nat.shiftRight_zero]

theorem immediateOf_toNat (w : Word) : (immediateOf w).toNat = w.toNat % 2 ^ 16 := by
  simp only [immediateOf, BitVec.extractLsb'_toNat, Nat.shiftRight_zero]

theorem targetOf_toNat (w : Word) : (targetOf w).toNat = w.toNat % 2 ^ 26 := by
  simp only [targetOf, BitVec.extractLsb'_toNat, Nat.shiftRight_zero]

/-! ## Layouts as numbers -/

theorem toNat_append_eq {m n : Nat} (x : BitVec m) (y : BitVec n) :
    (x ++ y).toNat = x.toNat * 2 ^ n + y.toNat := by
  rw [BitVec.toNat_append, ← Nat.shiftLeft_add_eq_or_of_lt y.isLt, Nat.shiftLeft_eq]

section Layouts
variable (op func : BitVec 6) (rs rt rd shamt : BitVec 5) (immediate : BitVec 16) (target : BitVec 26)

theorem rLayout_toNat :
    (rLayout op rs rt rd shamt func).toNat
      = ((((op.toNat * 2 ^ 5 + rs.toNat) * 2 ^ 5 + rt.toNat) * 2 ^ 5 + rd.toNat) * 2 ^ 5 + shamt.toNat) * 2 ^ 6
        + func.toNat := by
  rw [rLayout, toNat_append_eq, toNat_append_eq, toNat_append_eq, toNat_append_eq, toNat_append_eq]

theorem iLayout_toNat :
    (iLayout op rs rt immediate).toNat
      = ((op.toNat * 2 ^ 5 + rs.toNat) * 2 ^ 5 + rt.toNat) * 2 ^ 16 + immediate.toNat := by
  rw [iLayout, toNat_append_eq, toNat_append_eq, toNat_append_eq]

theorem jLayout_toNat : (jLayout op target).toNat = op.toNat * 2 ^ 26 + target.toNat := by
  rw [jLayout, toNat_append_eq]

/-! ## A field of a layout is read back -/

@[simp] theorem opOf_rLayout : opOf (rLayout op rs rt rd shamt func) = op := by
  apply BitVec.eq_of_toNat_eq
  rw [opOf_toNat, rLayout_toNat]
  omega

@[simp] theorem rsOf_rLayout : rsOf (rLayout op rs rt rd shamt func) = rs := by
  apply BitVec.eq_of_toNat_eq
  rw [rsOf_toNat, rLayout_toNat]
  omega

@[simp] theorem rtOf_rLayout : rtOf (rLayout op rs rt rd shamt func) = rt := by
  apply BitVec.eq_of_toNat_eq
  rw [rtOf_toNat, rLayout_toNat]
  omega

@[simp] theorem rdOf_rLayout : rdOf (rLayout op rs rt rd shamt func) = rd := by
  apply BitVec.eq_of_toNat_eq
  rw [rdOf_toNat, rLayout_toNat]
  omega

@[simp] theorem shamtOf_rLayout : shamtOf (rLayout op rs rt rd shamt func) = shamt := by
  apply BitVec.eq_of_toNat_eq
  rw [shamtOf_toNat, rLayout_toNat]
  omega

@[simp] theorem funcOf_rLayout : funcOf (rLayout op rs rt rd shamt func) = func := by
  apply BitVec.eq_of_toNat_eq
  rw [funcOf_toNat, rLayout_toNat]
  omega

@[simp] theorem opOf_iLayout : opOf (iLayout op rs rt immediate) = op := by
  apply BitVec.eq_of_toNat_eq
  rw [opOf_toNat, iLayout_toNat]
  omega

@[simp] theorem rsOf_iLayout : rsOf (iLayout op rs rt immediate) = rs := by
  apply BitVec.eq_of_toNat_eq
  rw [rsOf_toNat, iLayout_toNat]
  omega

@[simp] theorem rtOf_iLayout : rtOf (iLayout op rs rt immediate) = rt := by
  apply BitVec.eq_of_toNat_eq
  rw [rtOf_toNat, iLayout_toNat]
  omega

@[simp] theorem immediateOf_iLayout : immediateOf (iLayout op rs rt immediate) = immediate := by
  apply BitVec.eq_of_toNat_eq
  rw [immediateOf_toNat, iLayout_toNat]
  omega

@[simp] theorem opOf_jLayout : opOf (jLayout op target) = op := by
  apply BitVec.eq_of_toNat_eq
  rw [opOf_toNat, jLayout_toNat]
  omega

@[simp] theorem targetOf_jLayout : targetOf (jLayout op target) = target := by
  apply BitVec.eq_of_toNat_eq
  rw [targetOf_toNat, jLayout_toNat]
  omega

end Layouts

/-! ## A word's own fields rebuild it -/

theorem rLayout_fields (w : Word) : rLayout (opOf w) (rsOf w) (rtOf w) (rdOf w) (shamtOf w) (funcOf w) = w := by
  apply BitVec.eq_of_toNat_eq
  rw [rLayout_toNat, opOf_toNat, rsOf_toNat, rtOf_toNat, rdOf_toNat, shamtOf_toNat, funcOf_toNat]
  omega

theorem iLayout_fields (w : Word) : iLayout (opOf w) (rsOf w) (rtOf w) (immediateOf w) = w := by
  apply BitVec.eq_of_toNat_eq
  rw [iLayout_toNat, opOf_toNat, rsOf_toNat, rtOf_toNat, immediateOf_toNat]
  omega

theorem jLayout_fields (w : Word) : jLayout (opOf w) (targetOf w) = w := by
  apply BitVec.eq_of_toNat_eq
  rw [jLayout_toNat, opOf_toNat, targetOf_toNat]
  omega

/-! ## The opcode table's masks -/

theorem rLayout_and (op op' func func' : BitVec 6) (rs rs' rt rt' rd rd' shamt shamt' : BitVec 5) :
    rLayout op rs rt rd shamt func &&& rLayout op' rs' rt' rd' shamt' func'
      = rLayout (op &&& op') (rs &&& rs') (rt &&& rt') (rd &&& rd') (shamt &&& shamt') (func &&& func') := by
  simp only [rLayout]
  rw [BitVec.and_append, BitVec.and_append, BitVec.and_append, BitVec.and_append, BitVec.and_append]

theorem jLayout_and (op op' : BitVec 6) (target target' : BitVec 26) :
    jLayout op target &&& jLayout op' target' = jLayout (op &&& op') (target &&& target') := by
  simp only [jLayout]
  rw [BitVec.and_append]

/-- Under the mask of the rows `SHIFT_func_*` and `R_func_*`, the opcode and the function code are left. -/
theorem and_funcMask (w : Word) :
    w &&& 0xFC00003F#32 = rLayout (opOf w) 0#5 0#5 0#5 0#5 (funcOf w) := by
  have mask : (0xFC00003F#32 : Word) = rLayout 63#6 0#5 0#5 0#5 0#5 63#6 := by decide
  have ones (v : BitVec 6) : v &&& 63#6 = v := BitVec.and_allOnes
  conv_lhs => rw [← rLayout_fields w, mask, rLayout_and]
  simp only [ones, BitVec.and_zero]

/-- Under the mask of the rows `J_op_*` and `I_op_*`, the opcode is left. -/
theorem and_opMask (w : Word) : w &&& 0xFC000000#32 = jLayout (opOf w) 0#26 := by
  have mask : (0xFC000000#32 : Word) = jLayout 63#6 0#26 := by decide
  have ones (v : BitVec 6) : v &&& 63#6 = v := BitVec.and_allOnes
  conv_lhs => rw [← jLayout_fields w, mask, jLayout_and]
  simp only [ones, BitVec.and_zero]

/-- A word of the R layout belongs to a row that fixes its opcode and function code. -/
theorem rRow_holds {name : String} {sel : Sel} {pattern : Word} {op func : BitVec 6}
    (h : rLayout op 0#5 0#5 0#5 0#5 func = pattern) (rs rt rd shamt : BitVec 5) :
    OpcodeRow.holds ⟨name, 0xFC00003F#32, pattern, sel⟩ (rLayout op rs rt rd shamt func) = true := by
  simp only [OpcodeRow.holds, and_funcMask, opOf_rLayout, funcOf_rLayout, h, beq_self_eq_true]

/-- A word of the I layout belongs to a row that fixes its opcode. -/
theorem iRow_holds {name : String} {sel : Sel} {pattern : Word} {op : BitVec 6}
    (h : jLayout op 0#26 = pattern) (rs rt : BitVec 5) (immediate : BitVec 16) :
    OpcodeRow.holds ⟨name, 0xFC000000#32, pattern, sel⟩ (iLayout op rs rt immediate) = true := by
  simp only [OpcodeRow.holds, and_opMask, opOf_iLayout, h, beq_self_eq_true]

/-- A word of the J layout belongs to a row that fixes its opcode. -/
theorem jRow_holds {name : String} {sel : Sel} {pattern : Word} {op : BitVec 6}
    (h : jLayout op 0#26 = pattern) (target : BitVec 26) :
    OpcodeRow.holds ⟨name, 0xFC000000#32, pattern, sel⟩ (jLayout op target) = true := by
  simp only [OpcodeRow.holds, and_opMask, opOf_jLayout, h, beq_self_eq_true]

end Sys2Proof
end

