-- ==== Sys2Proof/Laws/Classify.lean ====
section
/-! SUPPORT. The four outcomes of `CLASSIFY` by opcode and function code (rules R72 to R75), each said once. -/

namespace Sys2Proof.Machine

/-- Outcome `SHIFT` (rule R72). -/
theorem classify_eq_shift {w : Word} (hop : opOf w = rFamilyOpcode) (hfunc : funcOf w ∈ shiftSet) : classify w = .shift := by
  rw [classify, if_pos hop, if_pos hfunc]

/-- Outcome `R` (rule R73). -/
theorem classify_eq_r {w : Word} (hop : opOf w = rFamilyOpcode) (hfunc : funcOf w ∉ shiftSet) : classify w = .r := by
  rw [classify, if_pos hop, if_neg hfunc]

/-- Outcome `J` (rule R74). -/
theorem classify_eq_j {w : Word} (hj : opOf w ∈ jSet) : classify w = .j := by
  have hop : opOf w ≠ rFamilyOpcode := fun h => by rw [h] at hj; revert hj; decide
  rw [classify, if_neg hop, if_pos hj]

/-- Outcome `I`, the catch-all (rule R75). -/
theorem classify_eq_i {w : Word} (hop : opOf w ≠ rFamilyOpcode) (hj : opOf w ∉ jSet) : classify w = .i := by
  rw [classify, if_neg hop, if_neg hj]

/-- `CLASSIFY` reads the opcode, and the function code only under opcode zero (rule R54). -/
theorem classify_congr {a b : Word} (hop : opOf a = opOf b) (hfunc : opOf a = rFamilyOpcode → funcOf a = funcOf b) :
    classify a = classify b := by
  unfold classify
  rw [← hop]
  split
  · rw [hfunc ‹_›]
  · rfl

/-- `KIND` is the kind of the selector's descriptor (rule R81). -/
theorem desc_kind (s : Sel) : (desc s).kind = kindOf s := by
  cases s <;> rfl

end Sys2Proof.Machine
end

