-- ==== Sys2Proof/Laws/Decode.lean ====
section
/-! SUPPORT. The decoder by its maps: a word is what the row at its opcode makes of it, and under opcode 000000 what
the row at its function code makes of it (rule R58). -/

namespace Sys2Proof

/-- A word is what the opcode map's row makes of it. -/
theorem decode_of_opRow {w : Word} {row : Word → Instr} (h : opRows[(opOf w).toNat]? = some row) :
    decode w = row w := by
  obtain ⟨_, hrow⟩ := List.getElem?_eq_some_iff.mp h
  exact congrFun hrow w

/-- A word of opcode 000000 is what the function-code map's row makes of it. -/
theorem decode_of_funcRow {w : Word} {row : Word → Instr} (hop : opOf w = 0b000000#6)
    (h : funcRows[(funcOf w).toNat]? = some row) : decode w = row w := by
  obtain ⟨_, hrow⟩ := List.getElem?_eq_some_iff.mp h
  exact (decode_of_opRow (row := decodeRFamily) (by rw [hop]; rfl)).trans (congrFun hrow w)

section Layouts
variable (op func : BitVec 6) (rs rt rd shamt : BitVec 5) (immediate : BitVec 16) (target : BitVec 26)

@[simp] theorem ofRLayout_rLayout (row : BitVec 5 → BitVec 5 → BitVec 5 → BitVec 5 → Instr) :
    ofRLayout row (rLayout op rs rt rd shamt func) = row rs rt rd shamt := by
  rw [ofRLayout, rsOf_rLayout, rtOf_rLayout, rdOf_rLayout, shamtOf_rLayout]

@[simp] theorem ofILayout_iLayout (row : BitVec 5 → BitVec 5 → BitVec 16 → Instr) :
    ofILayout row (iLayout op rs rt immediate) = row rs rt immediate := by
  rw [ofILayout, rsOf_iLayout, rtOf_iLayout, immediateOf_iLayout]

@[simp] theorem ofJLayout_jLayout (row : BitVec 26 → Instr) : ofJLayout row (jLayout op target) = row target := by
  rw [ofJLayout, targetOf_jLayout]

/-- A word of the I layout is what the opcode map's row makes of its fields. -/
theorem decode_iLayout {row : BitVec 5 → BitVec 5 → BitVec 16 → Instr}
    (h : opRows[op.toNat]? = some (ofILayout row)) : decode (iLayout op rs rt immediate) = row rs rt immediate := by
  rw [decode_of_opRow (row := ofILayout row) (by rw [opOf_iLayout, h]), ofILayout_iLayout]

/-- A word of the J layout is what the opcode map's row makes of its target. -/
theorem decode_jLayout {row : BitVec 26 → Instr} (h : opRows[op.toNat]? = some (ofJLayout row)) :
    decode (jLayout op target) = row target := by
  rw [decode_of_opRow (row := ofJLayout row) (by rw [opOf_jLayout, h]), ofJLayout_jLayout]

/-- A word of opcode 000000 is what the function-code map's row makes of its fields. -/
theorem decode_rLayout {row : BitVec 5 → BitVec 5 → BitVec 5 → BitVec 5 → Instr}
    (h : funcRows[func.toNat]? = some (ofRLayout row)) :
    decode (rLayout 0b000000#6 rs rt rd shamt func) = row rs rt rd shamt := by
  rw [decode_of_funcRow (row := ofRLayout row) (opOf_rLayout ..) (by rw [funcOf_rLayout, h]), ofRLayout_rLayout]

end Layouts

end Sys2Proof
end

