-- ==== Sys2Proof/Laws/State.lean ====
section
/-! SUPPORT. The state's fields under each update of it, one lemma a field. -/

namespace Sys2Proof.Machine

section
variable (s : State) (r : Result) (w : Word) (sel : Sel) (e : ErrorCondition) (rest : List Call) (nbits n : Nat)

@[simp] theorem deliver_word : (deliver r s).word = s.word := rfl
@[simp] theorem deliver_out : (deliver r s).out = s.out := rfl
@[simp] theorem deliver_pending : (deliver r s).pending = s.pending := rfl
@[simp] theorem deliver_results : (deliver r s).results = s.results ++ [r] := rfl

@[simp] theorem drive_word : (drive w sel s).word = w := rfl
@[simp] theorem drive_out : (drive w sel s).out = portsWith sel w := rfl
@[simp] theorem drive_pending : (drive w sel s).pending = s.pending := rfl
@[simp] theorem drive_results : (drive w sel s).results = s.results ++ [.evaluated w (portsWith sel w)] := rfl

@[simp] theorem raise_word : (raise e s).word = s.word := rfl
@[simp] theorem raise_out : (raise e s).out = s.out := rfl
@[simp] theorem raise_pending : (raise e s).pending = s.pending := rfl
@[simp] theorem raise_results : (raise e s).results = s.results ++ [.raised e] := rfl

@[simp] theorem withPending_word : (s.withPending rest).word = s.word := rfl
@[simp] theorem withPending_out : (s.withPending rest).out = s.out := rfl
@[simp] theorem withPending_pending : (s.withPending rest).pending = rest := rfl
@[simp] theorem withPending_results : (s.withPending rest).results = s.results := rfl

@[simp] theorem withFetchWord_word : (s.withFetchWord nbits n).word = s.word := rfl
@[simp] theorem withFetchWord_out : (s.withFetchWord nbits n).out = s.out := rfl
@[simp] theorem withFetchWord_pending :
    (s.withFetchWord nbits n).pending = .present (BitVec.ofNat 32 n) :: s.pending := rfl
@[simp] theorem withFetchWord_results : (s.withFetchWord nbits n).results = s.results := rfl

@[simp] theorem reset_word : State.reset.word = 0#32 := rfl
@[simp] theorem reset_out : State.reset.out = portsOf 0#32 := rfl
@[simp] theorem reset_pending : State.reset.pending = [] := rfl
@[simp] theorem reset_results : State.reset.results = [] := rfl

@[simp] theorem portsWith_sel : (portsWith sel w).sel = sel := rfl
@[simp] theorem portsWith_kind : (portsWith sel w).kind = kindOf sel := rfl
@[simp] theorem portsWith_desc : (portsWith sel w).desc = desc sel := rfl
@[simp] theorem portsWith_opcode : (portsWith sel w).opcode = opOf w := rfl
@[simp] theorem portsWith_func : (portsWith sel w).func = funcOf w := rfl
@[simp] theorem portsWith_funcValid : (portsWith sel w).funcValid = isRFamily w := rfl

end

end Sys2Proof.Machine
end

