-- ==== Sys2Proof/Laws/Ops.lean ====
section
/-! SUPPORT. What an instruction and a step can do, said once: an instruction is one evaluation of the block, and a
step serves one call. -/

namespace Sys2Proof.Machine

/-- An instruction presents its own word and gives a next state, whatever the state; the selector is its row's. -/
theorem exec_eq_drive (i : Instr) : ∃ sel, ∀ s, exec i s = .next (drive (encode i) sel s) := by
  cases i <;> exact ⟨_, fun _ => rfl⟩

/-- With no call left, a step changes nothing. -/
theorem step_idle {s : State} (h : s.pending = []) : step s = .next s := by
  rw [step, h]

/-- A call that puts a word on the input port runs the word's instruction. -/
theorem step_evaluate {s : State} {c : Call} {rest : List Call} {w : Word} (h : s.pending = c :: rest)
    (hc : serve c = .evaluate w) : step s = exec (decode w) (s.withPending rest) := by
  simp only [step, h, hc]

/-- A call answered beside the block. -/
theorem step_answer {s : State} {c : Call} {rest : List Call} {r : Result} (h : s.pending = c :: rest)
    (hc : serve c = .answer r) : step s = .next (deliver r (s.withPending rest)) := by
  simp only [step, h, hc]

/-- A call that raises a condition. -/
theorem step_raising {s : State} {c : Call} {rest : List Call} {e : ErrorCondition} (h : s.pending = c :: rest)
    (hc : serve c = .raising e) : step s = .next (raise e (s.withPending rest)) := by
  simp only [step, h, hc]

/-- All that a step can do: nothing, one evaluation, one answer, or one condition raised. -/
theorem step_cases {s t : State} (h : step s = .next t) :
    (s.pending = [] ∧ t = s) ∨
    ∃ c rest, s.pending = c :: rest ∧
      ((∃ w, serve c = .evaluate w ∧ exec (decode w) (s.withPending rest) = .next t) ∨
       (∃ r, serve c = .answer r ∧ t = deliver r (s.withPending rest)) ∨
       (∃ e, serve c = .raising e ∧ t = raise e (s.withPending rest))) := by
  match hp : s.pending with
  | [] =>
    rw [step_idle hp] at h
    exact .inl ⟨rfl, (Host.Outcome.next.inj h).symm⟩
  | c :: rest =>
    refine .inr ⟨c, rest, rfl, ?_⟩
    match hc : serve c with
    | .evaluate w => exact .inl ⟨w, rfl, (step_evaluate hp hc).symm.trans h⟩
    | .answer r => exact .inr (.inl ⟨r, rfl, (Host.Outcome.next.inj ((step_answer hp hc).symm.trans h)).symm⟩)
    | .raising e => exact .inr (.inr ⟨e, rfl, (Host.Outcome.next.inj ((step_raising hp hc).symm.trans h)).symm⟩)

end Sys2Proof.Machine
end

