-- ==== Sys2Proof/Laws/PerInstr.lean ====
section
/-! SUPPORT. The laws that hold of every instruction as syntax, one lemma per constructor. -/

namespace Sys2Proof.Laws.RowMatch

/-- The instruction's words belong to the row that bears its name (rule R59), and the row is in the opcode table. -/
def Statement (i : Instr) : Prop :=
  ∃ r ∈ opcodeTable, r.mnemonic = i.mnemonic ∧ r.holds (encode i) = true

theorem shiftFunc000000 (rs rt rd shamt : BitVec 5) : Statement (.shiftFunc000000 rs rt rd shamt) :=
  ⟨_, List.mem_of_getElem? (i := 0) rfl, rfl, rRow_holds (by decide) rs rt rd shamt⟩

theorem rFunc000001 (rs rt rd shamt : BitVec 5) : Statement (.rFunc000001 rs rt rd shamt) :=
  ⟨_, List.mem_of_getElem? (i := 1) rfl, rfl, rRow_holds (by decide) rs rt rd shamt⟩

theorem shiftFunc000010 (rs rt rd shamt : BitVec 5) : Statement (.shiftFunc000010 rs rt rd shamt) :=
  ⟨_, List.mem_of_getElem? (i := 2) rfl, rfl, rRow_holds (by decide) rs rt rd shamt⟩

theorem shiftFunc000011 (rs rt rd shamt : BitVec 5) : Statement (.shiftFunc000011 rs rt rd shamt) :=
  ⟨_, List.mem_of_getElem? (i := 3) rfl, rfl, rRow_holds (by decide) rs rt rd shamt⟩

theorem shiftFunc000100 (rs rt rd shamt : BitVec 5) : Statement (.shiftFunc000100 rs rt rd shamt) :=
  ⟨_, List.mem_of_getElem? (i := 4) rfl, rfl, rRow_holds (by decide) rs rt rd shamt⟩

theorem rFunc000101 (rs rt rd shamt : BitVec 5) : Statement (.rFunc000101 rs rt rd shamt) :=
  ⟨_, List.mem_of_getElem? (i := 5) rfl, rfl, rRow_holds (by decide) rs rt rd shamt⟩

theorem shiftFunc000110 (rs rt rd shamt : BitVec 5) : Statement (.shiftFunc000110 rs rt rd shamt) :=
  ⟨_, List.mem_of_getElem? (i := 6) rfl, rfl, rRow_holds (by decide) rs rt rd shamt⟩

theorem shiftFunc000111 (rs rt rd shamt : BitVec 5) : Statement (.shiftFunc000111 rs rt rd shamt) :=
  ⟨_, List.mem_of_getElem? (i := 7) rfl, rfl, rRow_holds (by decide) rs rt rd shamt⟩

theorem rFunc001000 (rs rt rd shamt : BitVec 5) : Statement (.rFunc001000 rs rt rd shamt) :=
  ⟨_, List.mem_of_getElem? (i := 8) rfl, rfl, rRow_holds (by decide) rs rt rd shamt⟩

theorem rFunc001001 (rs rt rd shamt : BitVec 5) : Statement (.rFunc001001 rs rt rd shamt) :=
  ⟨_, List.mem_of_getElem? (i := 9) rfl, rfl, rRow_holds (by decide) rs rt rd shamt⟩

theorem rFunc001010 (rs rt rd shamt : BitVec 5) : Statement (.rFunc001010 rs rt rd shamt) :=
  ⟨_, List.mem_of_getElem? (i := 10) rfl, rfl, rRow_holds (by decide) rs rt rd shamt⟩

theorem rFunc001011 (rs rt rd shamt : BitVec 5) : Statement (.rFunc001011 rs rt rd shamt) :=
  ⟨_, List.mem_of_getElem? (i := 11) rfl, rfl, rRow_holds (by decide) rs rt rd shamt⟩

theorem rFunc001100 (rs rt rd shamt : BitVec 5) : Statement (.rFunc001100 rs rt rd shamt) :=
  ⟨_, List.mem_of_getElem? (i := 12) rfl, rfl, rRow_holds (by decide) rs rt rd shamt⟩

theorem rFunc001101 (rs rt rd shamt : BitVec 5) : Statement (.rFunc001101 rs rt rd shamt) :=
  ⟨_, List.mem_of_getElem? (i := 13) rfl, rfl, rRow_holds (by decide) rs rt rd shamt⟩

theorem rFunc001110 (rs rt rd shamt : BitVec 5) : Statement (.rFunc001110 rs rt rd shamt) :=
  ⟨_, List.mem_of_getElem? (i := 14) rfl, rfl, rRow_holds (by decide) rs rt rd shamt⟩

theorem rFunc001111 (rs rt rd shamt : BitVec 5) : Statement (.rFunc001111 rs rt rd shamt) :=
  ⟨_, List.mem_of_getElem? (i := 15) rfl, rfl, rRow_holds (by decide) rs rt rd shamt⟩

theorem rFunc010000 (rs rt rd shamt : BitVec 5) : Statement (.rFunc010000 rs rt rd shamt) :=
  ⟨_, List.mem_of_getElem? (i := 16) rfl, rfl, rRow_holds (by decide) rs rt rd shamt⟩

theorem rFunc010001 (rs rt rd shamt : BitVec 5) : Statement (.rFunc010001 rs rt rd shamt) :=
  ⟨_, List.mem_of_getElem? (i := 17) rfl, rfl, rRow_holds (by decide) rs rt rd shamt⟩

theorem rFunc010010 (rs rt rd shamt : BitVec 5) : Statement (.rFunc010010 rs rt rd shamt) :=
  ⟨_, List.mem_of_getElem? (i := 18) rfl, rfl, rRow_holds (by decide) rs rt rd shamt⟩

theorem rFunc010011 (rs rt rd shamt : BitVec 5) : Statement (.rFunc010011 rs rt rd shamt) :=
  ⟨_, List.mem_of_getElem? (i := 19) rfl, rfl, rRow_holds (by decide) rs rt rd shamt⟩

theorem rFunc010100 (rs rt rd shamt : BitVec 5) : Statement (.rFunc010100 rs rt rd shamt) :=
  ⟨_, List.mem_of_getElem? (i := 20) rfl, rfl, rRow_holds (by decide) rs rt rd shamt⟩

theorem rFunc010101 (rs rt rd shamt : BitVec 5) : Statement (.rFunc010101 rs rt rd shamt) :=
  ⟨_, List.mem_of_getElem? (i := 21) rfl, rfl, rRow_holds (by decide) rs rt rd shamt⟩

theorem rFunc010110 (rs rt rd shamt : BitVec 5) : Statement (.rFunc010110 rs rt rd shamt) :=
  ⟨_, List.mem_of_getElem? (i := 22) rfl, rfl, rRow_holds (by decide) rs rt rd shamt⟩

theorem rFunc010111 (rs rt rd shamt : BitVec 5) : Statement (.rFunc010111 rs rt rd shamt) :=
  ⟨_, List.mem_of_getElem? (i := 23) rfl, rfl, rRow_holds (by decide) rs rt rd shamt⟩

theorem rFunc011000 (rs rt rd shamt : BitVec 5) : Statement (.rFunc011000 rs rt rd shamt) :=
  ⟨_, List.mem_of_getElem? (i := 24) rfl, rfl, rRow_holds (by decide) rs rt rd shamt⟩

theorem rFunc011001 (rs rt rd shamt : BitVec 5) : Statement (.rFunc011001 rs rt rd shamt) :=
  ⟨_, List.mem_of_getElem? (i := 25) rfl, rfl, rRow_holds (by decide) rs rt rd shamt⟩

theorem rFunc011010 (rs rt rd shamt : BitVec 5) : Statement (.rFunc011010 rs rt rd shamt) :=
  ⟨_, List.mem_of_getElem? (i := 26) rfl, rfl, rRow_holds (by decide) rs rt rd shamt⟩

theorem rFunc011011 (rs rt rd shamt : BitVec 5) : Statement (.rFunc011011 rs rt rd shamt) :=
  ⟨_, List.mem_of_getElem? (i := 27) rfl, rfl, rRow_holds (by decide) rs rt rd shamt⟩

theorem rFunc011100 (rs rt rd shamt : BitVec 5) : Statement (.rFunc011100 rs rt rd shamt) :=
  ⟨_, List.mem_of_getElem? (i := 28) rfl, rfl, rRow_holds (by decide) rs rt rd shamt⟩

theorem rFunc011101 (rs rt rd shamt : BitVec 5) : Statement (.rFunc011101 rs rt rd shamt) :=
  ⟨_, List.mem_of_getElem? (i := 29) rfl, rfl, rRow_holds (by decide) rs rt rd shamt⟩

theorem rFunc011110 (rs rt rd shamt : BitVec 5) : Statement (.rFunc011110 rs rt rd shamt) :=
  ⟨_, List.mem_of_getElem? (i := 30) rfl, rfl, rRow_holds (by decide) rs rt rd shamt⟩

theorem rFunc011111 (rs rt rd shamt : BitVec 5) : Statement (.rFunc011111 rs rt rd shamt) :=
  ⟨_, List.mem_of_getElem? (i := 31) rfl, rfl, rRow_holds (by decide) rs rt rd shamt⟩

theorem rFunc100000 (rs rt rd shamt : BitVec 5) : Statement (.rFunc100000 rs rt rd shamt) :=
  ⟨_, List.mem_of_getElem? (i := 32) rfl, rfl, rRow_holds (by decide) rs rt rd shamt⟩

theorem rFunc100001 (rs rt rd shamt : BitVec 5) : Statement (.rFunc100001 rs rt rd shamt) :=
  ⟨_, List.mem_of_getElem? (i := 33) rfl, rfl, rRow_holds (by decide) rs rt rd shamt⟩

theorem rFunc100010 (rs rt rd shamt : BitVec 5) : Statement (.rFunc100010 rs rt rd shamt) :=
  ⟨_, List.mem_of_getElem? (i := 34) rfl, rfl, rRow_holds (by decide) rs rt rd shamt⟩

theorem rFunc100011 (rs rt rd shamt : BitVec 5) : Statement (.rFunc100011 rs rt rd shamt) :=
  ⟨_, List.mem_of_getElem? (i := 35) rfl, rfl, rRow_holds (by decide) rs rt rd shamt⟩

theorem rFunc100100 (rs rt rd shamt : BitVec 5) : Statement (.rFunc100100 rs rt rd shamt) :=
  ⟨_, List.mem_of_getElem? (i := 36) rfl, rfl, rRow_holds (by decide) rs rt rd shamt⟩

theorem rFunc100101 (rs rt rd shamt : BitVec 5) : Statement (.rFunc100101 rs rt rd shamt) :=
  ⟨_, List.mem_of_getElem? (i := 37) rfl, rfl, rRow_holds (by decide) rs rt rd shamt⟩

theorem rFunc100110 (rs rt rd shamt : BitVec 5) : Statement (.rFunc100110 rs rt rd shamt) :=
  ⟨_, List.mem_of_getElem? (i := 38) rfl, rfl, rRow_holds (by decide) rs rt rd shamt⟩

theorem rFunc100111 (rs rt rd shamt : BitVec 5) : Statement (.rFunc100111 rs rt rd shamt) :=
  ⟨_, List.mem_of_getElem? (i := 39) rfl, rfl, rRow_holds (by decide) rs rt rd shamt⟩

theorem rFunc101000 (rs rt rd shamt : BitVec 5) : Statement (.rFunc101000 rs rt rd shamt) :=
  ⟨_, List.mem_of_getElem? (i := 40) rfl, rfl, rRow_holds (by decide) rs rt rd shamt⟩

theorem rFunc101001 (rs rt rd shamt : BitVec 5) : Statement (.rFunc101001 rs rt rd shamt) :=
  ⟨_, List.mem_of_getElem? (i := 41) rfl, rfl, rRow_holds (by decide) rs rt rd shamt⟩

theorem rFunc101010 (rs rt rd shamt : BitVec 5) : Statement (.rFunc101010 rs rt rd shamt) :=
  ⟨_, List.mem_of_getElem? (i := 42) rfl, rfl, rRow_holds (by decide) rs rt rd shamt⟩

theorem rFunc101011 (rs rt rd shamt : BitVec 5) : Statement (.rFunc101011 rs rt rd shamt) :=
  ⟨_, List.mem_of_getElem? (i := 43) rfl, rfl, rRow_holds (by decide) rs rt rd shamt⟩

theorem rFunc101100 (rs rt rd shamt : BitVec 5) : Statement (.rFunc101100 rs rt rd shamt) :=
  ⟨_, List.mem_of_getElem? (i := 44) rfl, rfl, rRow_holds (by decide) rs rt rd shamt⟩

theorem rFunc101101 (rs rt rd shamt : BitVec 5) : Statement (.rFunc101101 rs rt rd shamt) :=
  ⟨_, List.mem_of_getElem? (i := 45) rfl, rfl, rRow_holds (by decide) rs rt rd shamt⟩

theorem rFunc101110 (rs rt rd shamt : BitVec 5) : Statement (.rFunc101110 rs rt rd shamt) :=
  ⟨_, List.mem_of_getElem? (i := 46) rfl, rfl, rRow_holds (by decide) rs rt rd shamt⟩

theorem rFunc101111 (rs rt rd shamt : BitVec 5) : Statement (.rFunc101111 rs rt rd shamt) :=
  ⟨_, List.mem_of_getElem? (i := 47) rfl, rfl, rRow_holds (by decide) rs rt rd shamt⟩

theorem rFunc110000 (rs rt rd shamt : BitVec 5) : Statement (.rFunc110000 rs rt rd shamt) :=
  ⟨_, List.mem_of_getElem? (i := 48) rfl, rfl, rRow_holds (by decide) rs rt rd shamt⟩

theorem rFunc110001 (rs rt rd shamt : BitVec 5) : Statement (.rFunc110001 rs rt rd shamt) :=
  ⟨_, List.mem_of_getElem? (i := 49) rfl, rfl, rRow_holds (by decide) rs rt rd shamt⟩

theorem rFunc110010 (rs rt rd shamt : BitVec 5) : Statement (.rFunc110010 rs rt rd shamt) :=
  ⟨_, List.mem_of_getElem? (i := 50) rfl, rfl, rRow_holds (by decide) rs rt rd shamt⟩

theorem rFunc110011 (rs rt rd shamt : BitVec 5) : Statement (.rFunc110011 rs rt rd shamt) :=
  ⟨_, List.mem_of_getElem? (i := 51) rfl, rfl, rRow_holds (by decide) rs rt rd shamt⟩

theorem rFunc110100 (rs rt rd shamt : BitVec 5) : Statement (.rFunc110100 rs rt rd shamt) :=
  ⟨_, List.mem_of_getElem? (i := 52) rfl, rfl, rRow_holds (by decide) rs rt rd shamt⟩

theorem rFunc110101 (rs rt rd shamt : BitVec 5) : Statement (.rFunc110101 rs rt rd shamt) :=
  ⟨_, List.mem_of_getElem? (i := 53) rfl, rfl, rRow_holds (by decide) rs rt rd shamt⟩

theorem rFunc110110 (rs rt rd shamt : BitVec 5) : Statement (.rFunc110110 rs rt rd shamt) :=
  ⟨_, List.mem_of_getElem? (i := 54) rfl, rfl, rRow_holds (by decide) rs rt rd shamt⟩

theorem rFunc110111 (rs rt rd shamt : BitVec 5) : Statement (.rFunc110111 rs rt rd shamt) :=
  ⟨_, List.mem_of_getElem? (i := 55) rfl, rfl, rRow_holds (by decide) rs rt rd shamt⟩

theorem rFunc111000 (rs rt rd shamt : BitVec 5) : Statement (.rFunc111000 rs rt rd shamt) :=
  ⟨_, List.mem_of_getElem? (i := 56) rfl, rfl, rRow_holds (by decide) rs rt rd shamt⟩

theorem rFunc111001 (rs rt rd shamt : BitVec 5) : Statement (.rFunc111001 rs rt rd shamt) :=
  ⟨_, List.mem_of_getElem? (i := 57) rfl, rfl, rRow_holds (by decide) rs rt rd shamt⟩

theorem rFunc111010 (rs rt rd shamt : BitVec 5) : Statement (.rFunc111010 rs rt rd shamt) :=
  ⟨_, List.mem_of_getElem? (i := 58) rfl, rfl, rRow_holds (by decide) rs rt rd shamt⟩

theorem rFunc111011 (rs rt rd shamt : BitVec 5) : Statement (.rFunc111011 rs rt rd shamt) :=
  ⟨_, List.mem_of_getElem? (i := 59) rfl, rfl, rRow_holds (by decide) rs rt rd shamt⟩

theorem rFunc111100 (rs rt rd shamt : BitVec 5) : Statement (.rFunc111100 rs rt rd shamt) :=
  ⟨_, List.mem_of_getElem? (i := 60) rfl, rfl, rRow_holds (by decide) rs rt rd shamt⟩

theorem rFunc111101 (rs rt rd shamt : BitVec 5) : Statement (.rFunc111101 rs rt rd shamt) :=
  ⟨_, List.mem_of_getElem? (i := 61) rfl, rfl, rRow_holds (by decide) rs rt rd shamt⟩

theorem rFunc111110 (rs rt rd shamt : BitVec 5) : Statement (.rFunc111110 rs rt rd shamt) :=
  ⟨_, List.mem_of_getElem? (i := 62) rfl, rfl, rRow_holds (by decide) rs rt rd shamt⟩

theorem rFunc111111 (rs rt rd shamt : BitVec 5) : Statement (.rFunc111111 rs rt rd shamt) :=
  ⟨_, List.mem_of_getElem? (i := 63) rfl, rfl, rRow_holds (by decide) rs rt rd shamt⟩

theorem iOp000001 (rs rt : BitVec 5) (immediate : BitVec 16) : Statement (.iOp000001 rs rt immediate) :=
  ⟨_, List.mem_of_getElem? (i := 64) rfl, rfl, iRow_holds (by decide) rs rt immediate⟩

theorem jOp000010 (target : BitVec 26) : Statement (.jOp000010 target) :=
  ⟨_, List.mem_of_getElem? (i := 65) rfl, rfl, jRow_holds (by decide) target⟩

theorem jOp000011 (target : BitVec 26) : Statement (.jOp000011 target) :=
  ⟨_, List.mem_of_getElem? (i := 66) rfl, rfl, jRow_holds (by decide) target⟩

theorem iOp000100 (rs rt : BitVec 5) (immediate : BitVec 16) : Statement (.iOp000100 rs rt immediate) :=
  ⟨_, List.mem_of_getElem? (i := 67) rfl, rfl, iRow_holds (by decide) rs rt immediate⟩

theorem iOp000101 (rs rt : BitVec 5) (immediate : BitVec 16) : Statement (.iOp000101 rs rt immediate) :=
  ⟨_, List.mem_of_getElem? (i := 68) rfl, rfl, iRow_holds (by decide) rs rt immediate⟩

theorem iOp000110 (rs rt : BitVec 5) (immediate : BitVec 16) : Statement (.iOp000110 rs rt immediate) :=
  ⟨_, List.mem_of_getElem? (i := 69) rfl, rfl, iRow_holds (by decide) rs rt immediate⟩

theorem iOp000111 (rs rt : BitVec 5) (immediate : BitVec 16) : Statement (.iOp000111 rs rt immediate) :=
  ⟨_, List.mem_of_getElem? (i := 70) rfl, rfl, iRow_holds (by decide) rs rt immediate⟩

theorem iOp001000 (rs rt : BitVec 5) (immediate : BitVec 16) : Statement (.iOp001000 rs rt immediate) :=
  ⟨_, List.mem_of_getElem? (i := 71) rfl, rfl, iRow_holds (by decide) rs rt immediate⟩

theorem iOp001001 (rs rt : BitVec 5) (immediate : BitVec 16) : Statement (.iOp001001 rs rt immediate) :=
  ⟨_, List.mem_of_getElem? (i := 72) rfl, rfl, iRow_holds (by decide) rs rt immediate⟩

theorem iOp001010 (rs rt : BitVec 5) (immediate : BitVec 16) : Statement (.iOp001010 rs rt immediate) :=
  ⟨_, List.mem_of_getElem? (i := 73) rfl, rfl, iRow_holds (by decide) rs rt immediate⟩

theorem iOp001011 (rs rt : BitVec 5) (immediate : BitVec 16) : Statement (.iOp001011 rs rt immediate) :=
  ⟨_, List.mem_of_getElem? (i := 74) rfl, rfl, iRow_holds (by decide) rs rt immediate⟩

theorem iOp001100 (rs rt : BitVec 5) (immediate : BitVec 16) : Statement (.iOp001100 rs rt immediate) :=
  ⟨_, List.mem_of_getElem? (i := 75) rfl, rfl, iRow_holds (by decide) rs rt immediate⟩

theorem iOp001101 (rs rt : BitVec 5) (immediate : BitVec 16) : Statement (.iOp001101 rs rt immediate) :=
  ⟨_, List.mem_of_getElem? (i := 76) rfl, rfl, iRow_holds (by decide) rs rt immediate⟩

theorem iOp001110 (rs rt : BitVec 5) (immediate : BitVec 16) : Statement (.iOp001110 rs rt immediate) :=
  ⟨_, List.mem_of_getElem? (i := 77) rfl, rfl, iRow_holds (by decide) rs rt immediate⟩

theorem iOp001111 (rs rt : BitVec 5) (immediate : BitVec 16) : Statement (.iOp001111 rs rt immediate) :=
  ⟨_, List.mem_of_getElem? (i := 78) rfl, rfl, iRow_holds (by decide) rs rt immediate⟩

theorem iOp010000 (rs rt : BitVec 5) (immediate : BitVec 16) : Statement (.iOp010000 rs rt immediate) :=
  ⟨_, List.mem_of_getElem? (i := 79) rfl, rfl, iRow_holds (by decide) rs rt immediate⟩

theorem iOp010001 (rs rt : BitVec 5) (immediate : BitVec 16) : Statement (.iOp010001 rs rt immediate) :=
  ⟨_, List.mem_of_getElem? (i := 80) rfl, rfl, iRow_holds (by decide) rs rt immediate⟩

theorem iOp010010 (rs rt : BitVec 5) (immediate : BitVec 16) : Statement (.iOp010010 rs rt immediate) :=
  ⟨_, List.mem_of_getElem? (i := 81) rfl, rfl, iRow_holds (by decide) rs rt immediate⟩

theorem iOp010011 (rs rt : BitVec 5) (immediate : BitVec 16) : Statement (.iOp010011 rs rt immediate) :=
  ⟨_, List.mem_of_getElem? (i := 82) rfl, rfl, iRow_holds (by decide) rs rt immediate⟩

theorem iOp010100 (rs rt : BitVec 5) (immediate : BitVec 16) : Statement (.iOp010100 rs rt immediate) :=
  ⟨_, List.mem_of_getElem? (i := 83) rfl, rfl, iRow_holds (by decide) rs rt immediate⟩

theorem iOp010101 (rs rt : BitVec 5) (immediate : BitVec 16) : Statement (.iOp010101 rs rt immediate) :=
  ⟨_, List.mem_of_getElem? (i := 84) rfl, rfl, iRow_holds (by decide) rs rt immediate⟩

theorem iOp010110 (rs rt : BitVec 5) (immediate : BitVec 16) : Statement (.iOp010110 rs rt immediate) :=
  ⟨_, List.mem_of_getElem? (i := 85) rfl, rfl, iRow_holds (by decide) rs rt immediate⟩

theorem iOp010111 (rs rt : BitVec 5) (immediate : BitVec 16) : Statement (.iOp010111 rs rt immediate) :=
  ⟨_, List.mem_of_getElem? (i := 86) rfl, rfl, iRow_holds (by decide) rs rt immediate⟩

theorem iOp011000 (rs rt : BitVec 5) (immediate : BitVec 16) : Statement (.iOp011000 rs rt immediate) :=
  ⟨_, List.mem_of_getElem? (i := 87) rfl, rfl, iRow_holds (by decide) rs rt immediate⟩

theorem iOp011001 (rs rt : BitVec 5) (immediate : BitVec 16) : Statement (.iOp011001 rs rt immediate) :=
  ⟨_, List.mem_of_getElem? (i := 88) rfl, rfl, iRow_holds (by decide) rs rt immediate⟩

theorem iOp011010 (rs rt : BitVec 5) (immediate : BitVec 16) : Statement (.iOp011010 rs rt immediate) :=
  ⟨_, List.mem_of_getElem? (i := 89) rfl, rfl, iRow_holds (by decide) rs rt immediate⟩

theorem iOp011011 (rs rt : BitVec 5) (immediate : BitVec 16) : Statement (.iOp011011 rs rt immediate) :=
  ⟨_, List.mem_of_getElem? (i := 90) rfl, rfl, iRow_holds (by decide) rs rt immediate⟩

theorem iOp011100 (rs rt : BitVec 5) (immediate : BitVec 16) : Statement (.iOp011100 rs rt immediate) :=
  ⟨_, List.mem_of_getElem? (i := 91) rfl, rfl, iRow_holds (by decide) rs rt immediate⟩

theorem iOp011101 (rs rt : BitVec 5) (immediate : BitVec 16) : Statement (.iOp011101 rs rt immediate) :=
  ⟨_, List.mem_of_getElem? (i := 92) rfl, rfl, iRow_holds (by decide) rs rt immediate⟩

theorem iOp011110 (rs rt : BitVec 5) (immediate : BitVec 16) : Statement (.iOp011110 rs rt immediate) :=
  ⟨_, List.mem_of_getElem? (i := 93) rfl, rfl, iRow_holds (by decide) rs rt immediate⟩

theorem iOp011111 (rs rt : BitVec 5) (immediate : BitVec 16) : Statement (.iOp011111 rs rt immediate) :=
  ⟨_, List.mem_of_getElem? (i := 94) rfl, rfl, iRow_holds (by decide) rs rt immediate⟩

theorem iOp100000 (rs rt : BitVec 5) (immediate : BitVec 16) : Statement (.iOp100000 rs rt immediate) :=
  ⟨_, List.mem_of_getElem? (i := 95) rfl, rfl, iRow_holds (by decide) rs rt immediate⟩

theorem iOp100001 (rs rt : BitVec 5) (immediate : BitVec 16) : Statement (.iOp100001 rs rt immediate) :=
  ⟨_, List.mem_of_getElem? (i := 96) rfl, rfl, iRow_holds (by decide) rs rt immediate⟩

theorem iOp100010 (rs rt : BitVec 5) (immediate : BitVec 16) : Statement (.iOp100010 rs rt immediate) :=
  ⟨_, List.mem_of_getElem? (i := 97) rfl, rfl, iRow_holds (by decide) rs rt immediate⟩

theorem iOp100011 (rs rt : BitVec 5) (immediate : BitVec 16) : Statement (.iOp100011 rs rt immediate) :=
  ⟨_, List.mem_of_getElem? (i := 98) rfl, rfl, iRow_holds (by decide) rs rt immediate⟩

theorem iOp100100 (rs rt : BitVec 5) (immediate : BitVec 16) : Statement (.iOp100100 rs rt immediate) :=
  ⟨_, List.mem_of_getElem? (i := 99) rfl, rfl, iRow_holds (by decide) rs rt immediate⟩

theorem iOp100101 (rs rt : BitVec 5) (immediate : BitVec 16) : Statement (.iOp100101 rs rt immediate) :=
  ⟨_, List.mem_of_getElem? (i := 100) rfl, rfl, iRow_holds (by decide) rs rt immediate⟩

theorem iOp100110 (rs rt : BitVec 5) (immediate : BitVec 16) : Statement (.iOp100110 rs rt immediate) :=
  ⟨_, List.mem_of_getElem? (i := 101) rfl, rfl, iRow_holds (by decide) rs rt immediate⟩

theorem iOp100111 (rs rt : BitVec 5) (immediate : BitVec 16) : Statement (.iOp100111 rs rt immediate) :=
  ⟨_, List.mem_of_getElem? (i := 102) rfl, rfl, iRow_holds (by decide) rs rt immediate⟩

theorem iOp101000 (rs rt : BitVec 5) (immediate : BitVec 16) : Statement (.iOp101000 rs rt immediate) :=
  ⟨_, List.mem_of_getElem? (i := 103) rfl, rfl, iRow_holds (by decide) rs rt immediate⟩

theorem iOp101001 (rs rt : BitVec 5) (immediate : BitVec 16) : Statement (.iOp101001 rs rt immediate) :=
  ⟨_, List.mem_of_getElem? (i := 104) rfl, rfl, iRow_holds (by decide) rs rt immediate⟩

theorem iOp101010 (rs rt : BitVec 5) (immediate : BitVec 16) : Statement (.iOp101010 rs rt immediate) :=
  ⟨_, List.mem_of_getElem? (i := 105) rfl, rfl, iRow_holds (by decide) rs rt immediate⟩

theorem iOp101011 (rs rt : BitVec 5) (immediate : BitVec 16) : Statement (.iOp101011 rs rt immediate) :=
  ⟨_, List.mem_of_getElem? (i := 106) rfl, rfl, iRow_holds (by decide) rs rt immediate⟩

theorem iOp101100 (rs rt : BitVec 5) (immediate : BitVec 16) : Statement (.iOp101100 rs rt immediate) :=
  ⟨_, List.mem_of_getElem? (i := 107) rfl, rfl, iRow_holds (by decide) rs rt immediate⟩

theorem iOp101101 (rs rt : BitVec 5) (immediate : BitVec 16) : Statement (.iOp101101 rs rt immediate) :=
  ⟨_, List.mem_of_getElem? (i := 108) rfl, rfl, iRow_holds (by decide) rs rt immediate⟩

theorem iOp101110 (rs rt : BitVec 5) (immediate : BitVec 16) : Statement (.iOp101110 rs rt immediate) :=
  ⟨_, List.mem_of_getElem? (i := 109) rfl, rfl, iRow_holds (by decide) rs rt immediate⟩

theorem iOp101111 (rs rt : BitVec 5) (immediate : BitVec 16) : Statement (.iOp101111 rs rt immediate) :=
  ⟨_, List.mem_of_getElem? (i := 110) rfl, rfl, iRow_holds (by decide) rs rt immediate⟩

theorem iOp110000 (rs rt : BitVec 5) (immediate : BitVec 16) : Statement (.iOp110000 rs rt immediate) :=
  ⟨_, List.mem_of_getElem? (i := 111) rfl, rfl, iRow_holds (by decide) rs rt immediate⟩

theorem iOp110001 (rs rt : BitVec 5) (immediate : BitVec 16) : Statement (.iOp110001 rs rt immediate) :=
  ⟨_, List.mem_of_getElem? (i := 112) rfl, rfl, iRow_holds (by decide) rs rt immediate⟩

theorem iOp110010 (rs rt : BitVec 5) (immediate : BitVec 16) : Statement (.iOp110010 rs rt immediate) :=
  ⟨_, List.mem_of_getElem? (i := 113) rfl, rfl, iRow_holds (by decide) rs rt immediate⟩

theorem iOp110011 (rs rt : BitVec 5) (immediate : BitVec 16) : Statement (.iOp110011 rs rt immediate) :=
  ⟨_, List.mem_of_getElem? (i := 114) rfl, rfl, iRow_holds (by decide) rs rt immediate⟩

theorem iOp110100 (rs rt : BitVec 5) (immediate : BitVec 16) : Statement (.iOp110100 rs rt immediate) :=
  ⟨_, List.mem_of_getElem? (i := 115) rfl, rfl, iRow_holds (by decide) rs rt immediate⟩

theorem iOp110101 (rs rt : BitVec 5) (immediate : BitVec 16) : Statement (.iOp110101 rs rt immediate) :=
  ⟨_, List.mem_of_getElem? (i := 116) rfl, rfl, iRow_holds (by decide) rs rt immediate⟩

theorem iOp110110 (rs rt : BitVec 5) (immediate : BitVec 16) : Statement (.iOp110110 rs rt immediate) :=
  ⟨_, List.mem_of_getElem? (i := 117) rfl, rfl, iRow_holds (by decide) rs rt immediate⟩

theorem iOp110111 (rs rt : BitVec 5) (immediate : BitVec 16) : Statement (.iOp110111 rs rt immediate) :=
  ⟨_, List.mem_of_getElem? (i := 118) rfl, rfl, iRow_holds (by decide) rs rt immediate⟩

theorem iOp111000 (rs rt : BitVec 5) (immediate : BitVec 16) : Statement (.iOp111000 rs rt immediate) :=
  ⟨_, List.mem_of_getElem? (i := 119) rfl, rfl, iRow_holds (by decide) rs rt immediate⟩

theorem iOp111001 (rs rt : BitVec 5) (immediate : BitVec 16) : Statement (.iOp111001 rs rt immediate) :=
  ⟨_, List.mem_of_getElem? (i := 120) rfl, rfl, iRow_holds (by decide) rs rt immediate⟩

theorem iOp111010 (rs rt : BitVec 5) (immediate : BitVec 16) : Statement (.iOp111010 rs rt immediate) :=
  ⟨_, List.mem_of_getElem? (i := 121) rfl, rfl, iRow_holds (by decide) rs rt immediate⟩

theorem iOp111011 (rs rt : BitVec 5) (immediate : BitVec 16) : Statement (.iOp111011 rs rt immediate) :=
  ⟨_, List.mem_of_getElem? (i := 122) rfl, rfl, iRow_holds (by decide) rs rt immediate⟩

theorem iOp111100 (rs rt : BitVec 5) (immediate : BitVec 16) : Statement (.iOp111100 rs rt immediate) :=
  ⟨_, List.mem_of_getElem? (i := 123) rfl, rfl, iRow_holds (by decide) rs rt immediate⟩

theorem iOp111101 (rs rt : BitVec 5) (immediate : BitVec 16) : Statement (.iOp111101 rs rt immediate) :=
  ⟨_, List.mem_of_getElem? (i := 124) rfl, rfl, iRow_holds (by decide) rs rt immediate⟩

theorem iOp111110 (rs rt : BitVec 5) (immediate : BitVec 16) : Statement (.iOp111110 rs rt immediate) :=
  ⟨_, List.mem_of_getElem? (i := 125) rfl, rfl, iRow_holds (by decide) rs rt immediate⟩

theorem iOp111111 (rs rt : BitVec 5) (immediate : BitVec 16) : Statement (.iOp111111 rs rt immediate) :=
  ⟨_, List.mem_of_getElem? (i := 126) rfl, rfl, iRow_holds (by decide) rs rt immediate⟩

end Sys2Proof.Laws.RowMatch
end

