-- ==== Sys2Proof/Tests/Slice0.lean ====
section
/-! SUPPORT. Tests. The expected values are the spec's: the encodings of spec/opcode_table.json (rule R59), written out
bit by bit with field values chosen here, and the vectors of spec/95_test_vectors.md. Then, for every statement with
hypotheses, a witness that meets them. -/

namespace Sys2Proof.Tests

open Sys2Proof Sys2Proof.Machine

/-! ## Well-formedness: an ill-formed term for each check -/

theorem test_descriptors_wellFormed :
    descR.wellFormed = true ∧ descShift.wellFormed = true ∧ descI.wellFormed = true ∧ descJ.wellFormed = true := by
  decide

theorem test_widthsSumTo32_refuses :
    FormatDescriptor.widthsSumTo32 ⟨.j, [(.op, 6), (.target, 25)], [.op, .target]⟩ = false := by decide

theorem test_widthsAsNamed_refuses :
    FormatDescriptor.widthsAsNamed ⟨.j, [(.op, 5), (.target, 27)], [.op, .target]⟩ = false := by decide

theorem test_operandsAreFields_refuses :
    FormatDescriptor.operandsAreFields ⟨.j, [(.op, 6), (.target, 26)], [.op, .immediate]⟩ = false := by decide

theorem test_opAsKindAsks_refuses :
    FormatDescriptor.opAsKindAsks { descR with operandOrder := [.func, .op] } = false ∧
    FormatDescriptor.opAsKindAsks { descI with operandOrder := [.rt, .op] } = false := by decide

theorem test_namesOnce_refuses :
    FormatDescriptor.namesOnce { descJ with fields := [(.op, 6), (.op, 26)] } = false ∧
    FormatDescriptor.namesOnce { descR with operandOrder := [.func, .rd, .rd] } = false := by decide

theorem test_firstFieldIsOp_refuses :
    FormatDescriptor.firstFieldIsOp { descJ with fields := [(.target, 26), (.op, 6)] } = false := by decide

theorem test_firstOperandNamesInstruction_refuses :
    FormatDescriptor.firstOperandNamesInstruction { descR with operandOrder := [.rd, .func] } = false := by decide

theorem test_regNames_checks_refuse :
    Config.has32Codes (Config.conventionalNames.take 31) = false ∧
    Config.sourceNamesKept (Config.conventionalNames.set 29 (some "fp".toList)) = false ∧
    Config.sourceNamesKept (Config.conventionalNames.set 26 (some "k0".toList)) = false ∧
    Config.othersNamed (Config.conventionalNames.set 5 none) = false ∧
    Config.namesPlain (Config.conventionalNames.set 5 (some "$a1".toList)) = false ∧
    Config.namesDistinct (Config.conventionalNames.set 5 (some "a0".toList)) = false := by decide

/-! ## Decoding: every row's word, written out from its encoding -/

theorem test_decode_shift_rows : ([
    (0b00000010000000110110110010000000#32, .shiftFunc000000 16#5 3#5 13#5 18#5),
    (0b00000010011100000100000111000010#32, .shiftFunc000010 19#5 16#5 8#5 7#5),
    (0b00000010110111010001111100000011#32, .shiftFunc000011 22#5 29#5 3#5 28#5),
    (0b00000011001010101111010001000100#32, .shiftFunc000100 25#5 10#5 30#5 17#5),
    (0b00000011100101111100100110000110#32, .shiftFunc000110 28#5 23#5 25#5 6#5),
    (0b00000011111001001010011011000111#32, .shiftFunc000111 31#5 4#5 20#5 27#5)] :
    List (Word × Instr)).all (fun p => decode p.1 == p.2) = true := by
  decide

theorem test_decode_r_1_rows : ([
    (0b00000010000000110110110010000001#32, .rFunc000001 16#5 3#5 13#5 18#5),
    (0b00000010011100000100000111000101#32, .rFunc000101 19#5 16#5 8#5 7#5),
    (0b00000010110111010001111100001000#32, .rFunc001000 22#5 29#5 3#5 28#5),
    (0b00000011001010101111010001001001#32, .rFunc001001 25#5 10#5 30#5 17#5),
    (0b00000011100101111100100110001010#32, .rFunc001010 28#5 23#5 25#5 6#5),
    (0b00000011111001001010011011001011#32, .rFunc001011 31#5 4#5 20#5 27#5),
    (0b00000000010100010111110000001100#32, .rFunc001100 2#5 17#5 15#5 16#5),
    (0b00000000101111100101000101001101#32, .rFunc001101 5#5 30#5 10#5 5#5),
    (0b00000001000010110010111010001110#32, .rFunc001110 8#5 11#5 5#5 26#5),
    (0b00000001011110000000001111001111#32, .rFunc001111 11#5 24#5 0#5 15#5),
    (0b00000001110001011101100100010000#32, .rFunc010000 14#5 5#5 27#5 4#5),
    (0b00000010001100101011011001010001#32, .rFunc010001 17#5 18#5 22#5 25#5),
    (0b00000010100111111000101110010010#32, .rFunc010010 20#5 31#5 17#5 14#5),
    (0b00000010111011000110000011010011#32, .rFunc010011 23#5 12#5 12#5 3#5),
    (0b00000011010110010011111000010100#32, .rFunc010100 26#5 25#5 7#5 24#5),
    (0b00000011101001100001001101010101#32, .rFunc010101 29#5 6#5 2#5 13#5),
    (0b00000000000100111110100010010110#32, .rFunc010110 0#5 19#5 29#5 2#5),
    (0b00000000011000001100010111010111#32, .rFunc010111 3#5 0#5 24#5 23#5),
    (0b00000000110011011001101100011000#32, .rFunc011000 6#5 13#5 19#5 12#5),
    (0b00000001001110100111000001011001#32, .rFunc011001 9#5 26#5 14#5 1#5),
    (0b00000001100001110100110110011010#32, .rFunc011010 12#5 7#5 9#5 22#5)] :
    List (Word × Instr)).all (fun p => decode p.1 == p.2) = true := by
  decide

theorem test_decode_r_2_rows : ([
    (0b00000001111101000010001011011011#32, .rFunc011011 15#5 20#5 4#5 11#5),
    (0b00000010010000011111100000011100#32, .rFunc011100 18#5 1#5 31#5 0#5),
    (0b00000010101011101101010101011101#32, .rFunc011101 21#5 14#5 26#5 21#5),
    (0b00000011000110111010101010011110#32, .rFunc011110 24#5 27#5 21#5 10#5),
    (0b00000011011010001000011111011111#32, .rFunc011111 27#5 8#5 16#5 31#5),
    (0b00000011110101010101110100100000#32, .rFunc100000 30#5 21#5 11#5 20#5),
    (0b00000000001000100011001001100001#32, .rFunc100001 1#5 2#5 6#5 9#5),
    (0b00000000100011110000111110100010#32, .rFunc100010 4#5 15#5 1#5 30#5),
    (0b00000000111111001110010011100011#32, .rFunc100011 7#5 28#5 28#5 19#5),
    (0b00000001010010011011101000100100#32, .rFunc100100 10#5 9#5 23#5 8#5),
    (0b00000001101101101001011101100101#32, .rFunc100101 13#5 22#5 18#5 29#5),
    (0b00000010000000110110110010100110#32, .rFunc100110 16#5 3#5 13#5 18#5),
    (0b00000010011100000100000111100111#32, .rFunc100111 19#5 16#5 8#5 7#5),
    (0b00000010110111010001111100101000#32, .rFunc101000 22#5 29#5 3#5 28#5),
    (0b00000011001010101111010001101001#32, .rFunc101001 25#5 10#5 30#5 17#5),
    (0b00000011100101111100100110101010#32, .rFunc101010 28#5 23#5 25#5 6#5),
    (0b00000011111001001010011011101011#32, .rFunc101011 31#5 4#5 20#5 27#5),
    (0b00000000010100010111110000101100#32, .rFunc101100 2#5 17#5 15#5 16#5),
    (0b00000000101111100101000101101101#32, .rFunc101101 5#5 30#5 10#5 5#5),
    (0b00000001000010110010111010101110#32, .rFunc101110 8#5 11#5 5#5 26#5),
    (0b00000001011110000000001111101111#32, .rFunc101111 11#5 24#5 0#5 15#5)] :
    List (Word × Instr)).all (fun p => decode p.1 == p.2) = true := by
  decide

theorem test_decode_r_3_rows : ([
    (0b00000001110001011101100100110000#32, .rFunc110000 14#5 5#5 27#5 4#5),
    (0b00000010001100101011011001110001#32, .rFunc110001 17#5 18#5 22#5 25#5),
    (0b00000010100111111000101110110010#32, .rFunc110010 20#5 31#5 17#5 14#5),
    (0b00000010111011000110000011110011#32, .rFunc110011 23#5 12#5 12#5 3#5),
    (0b00000011010110010011111000110100#32, .rFunc110100 26#5 25#5 7#5 24#5),
    (0b00000011101001100001001101110101#32, .rFunc110101 29#5 6#5 2#5 13#5),
    (0b00000000000100111110100010110110#32, .rFunc110110 0#5 19#5 29#5 2#5),
    (0b00000000011000001100010111110111#32, .rFunc110111 3#5 0#5 24#5 23#5),
    (0b00000000110011011001101100111000#32, .rFunc111000 6#5 13#5 19#5 12#5),
    (0b00000001001110100111000001111001#32, .rFunc111001 9#5 26#5 14#5 1#5),
    (0b00000001100001110100110110111010#32, .rFunc111010 12#5 7#5 9#5 22#5),
    (0b00000001111101000010001011111011#32, .rFunc111011 15#5 20#5 4#5 11#5),
    (0b00000010010000011111100000111100#32, .rFunc111100 18#5 1#5 31#5 0#5),
    (0b00000010101011101101010101111101#32, .rFunc111101 21#5 14#5 26#5 21#5),
    (0b00000011000110111010101010111110#32, .rFunc111110 24#5 27#5 21#5 10#5),
    (0b00000011011010001000011111111111#32, .rFunc111111 27#5 8#5 16#5 31#5)] :
    List (Word × Instr)).all (fun p => decode p.1 == p.2) = true := by
  decide

theorem test_decode_j_rows : ([
    (0b00001000100010001001010010101111#32, .jOp000010 8950959#26),
    (0b00001101101001000001101011100100#32, .jOp000011 27532004#26)] :
    List (Word × Instr)).all (fun p => decode p.1 == p.2) = true := by
  decide

theorem test_decode_i_1_rows : ([
    (0b00000110000000110000101011011110#32, .iOp000001 16#5 3#5 2782#16),
    (0b00010010011100000101111001011111#32, .iOp000100 19#5 16#5 24159#16),
    (0b00010110110111011011000111100000#32, .iOp000101 22#5 29#5 45536#16),
    (0b00011011001010100000010101100001#32, .iOp000110 25#5 10#5 1377#16),
    (0b00011111100101110101100011100010#32, .iOp000111 28#5 23#5 22754#16),
    (0b00100011111001001010110001100011#32, .iOp001000 31#5 4#5 44131#16),
    (0b00100100010100011111111111100100#32, .iOp001001 2#5 17#5 65508#16),
    (0b00101000101111100101001101100101#32, .iOp001010 5#5 30#5 21349#16),
    (0b00101101000010111010011011100110#32, .iOp001011 8#5 11#5 42726#16),
    (0b00110001011110001111101001100111#32, .iOp001100 11#5 24#5 64103#16),
    (0b00110101110001010100110111101000#32, .iOp001101 14#5 5#5 19944#16),
    (0b00111010001100101010000101101001#32, .iOp001110 17#5 18#5 41321#16),
    (0b00111110100111111111010011101010#32, .iOp001111 20#5 31#5 62698#16),
    (0b01000010111011000100100001101011#32, .iOp010000 23#5 12#5 18539#16),
    (0b01000111010110011001101111101100#32, .iOp010001 26#5 25#5 39916#16),
    (0b01001011101001101110111101101101#32, .iOp010010 29#5 6#5 61293#16),
    (0b01001100000100110100001011101110#32, .iOp010011 0#5 19#5 17134#16),
    (0b01010000011000001001011001101111#32, .iOp010100 3#5 0#5 38511#16),
    (0b01010100110011011110100111110000#32, .iOp010101 6#5 13#5 59888#16),
    (0b01011001001110100011110101110001#32, .iOp010110 9#5 26#5 15729#16),
    (0b01011101100001111001000011110010#32, .iOp010111 12#5 7#5 37106#16)] :
    List (Word × Instr)).all (fun p => decode p.1 == p.2) = true := by
  decide

theorem test_decode_i_2_rows : ([
    (0b01100001111101001110010001110011#32, .iOp011000 15#5 20#5 58483#16),
    (0b01100110010000010011011111110100#32, .iOp011001 18#5 1#5 14324#16),
    (0b01101010101011101000101101110101#32, .iOp011010 21#5 14#5 35701#16),
    (0b01101111000110111101111011110110#32, .iOp011011 24#5 27#5 57078#16),
    (0b01110011011010000011001001110111#32, .iOp011100 27#5 8#5 12919#16),
    (0b01110111110101011000010111111000#32, .iOp011101 30#5 21#5 34296#16),
    (0b01111000001000101101100101111001#32, .iOp011110 1#5 2#5 55673#16),
    (0b01111100100011110010110011111010#32, .iOp011111 4#5 15#5 11514#16),
    (0b10000000111111001000000001111011#32, .iOp100000 7#5 28#5 32891#16),
    (0b10000101010010011101001111111100#32, .iOp100001 10#5 9#5 54268#16),
    (0b10001001101101100010011101111101#32, .iOp100010 13#5 22#5 10109#16),
    (0b10001110000000110111101011111110#32, .iOp100011 16#5 3#5 31486#16),
    (0b10010010011100001100111001111111#32, .iOp100100 19#5 16#5 52863#16),
    (0b10010110110111010010001000000000#32, .iOp100101 22#5 29#5 8704#16),
    (0b10011011001010100111010110000001#32, .iOp100110 25#5 10#5 30081#16),
    (0b10011111100101111100100100000010#32, .iOp100111 28#5 23#5 51458#16),
    (0b10100011111001000001110010000011#32, .iOp101000 31#5 4#5 7299#16),
    (0b10100100010100010111000000000100#32, .iOp101001 2#5 17#5 28676#16),
    (0b10101000101111101100001110000101#32, .iOp101010 5#5 30#5 50053#16),
    (0b10101101000010110001011100000110#32, .iOp101011 8#5 11#5 5894#16),
    (0b10110001011110000110101010000111#32, .iOp101100 11#5 24#5 27271#16)] :
    List (Word × Instr)).all (fun p => decode p.1 == p.2) = true := by
  decide

theorem test_decode_i_3_rows : ([
    (0b10110101110001011011111000001000#32, .iOp101101 14#5 5#5 48648#16),
    (0b10111010001100100001000110001001#32, .iOp101110 17#5 18#5 4489#16),
    (0b10111110100111110110010100001010#32, .iOp101111 20#5 31#5 25866#16),
    (0b11000010111011001011100010001011#32, .iOp110000 23#5 12#5 47243#16),
    (0b11000111010110010000110000001100#32, .iOp110001 26#5 25#5 3084#16),
    (0b11001011101001100101111110001101#32, .iOp110010 29#5 6#5 24461#16),
    (0b11001100000100111011001100001110#32, .iOp110011 0#5 19#5 45838#16),
    (0b11010000011000000000011010001111#32, .iOp110100 3#5 0#5 1679#16),
    (0b11010100110011010101101000010000#32, .iOp110101 6#5 13#5 23056#16),
    (0b11011001001110101010110110010001#32, .iOp110110 9#5 26#5 44433#16),
    (0b11011101100001110000000100010010#32, .iOp110111 12#5 7#5 274#16),
    (0b11100001111101000101010010010011#32, .iOp111000 15#5 20#5 21651#16),
    (0b11100110010000011010100000010100#32, .iOp111001 18#5 1#5 43028#16),
    (0b11101010101011101111101110010101#32, .iOp111010 21#5 14#5 64405#16),
    (0b11101111000110110100111100010110#32, .iOp111011 24#5 27#5 20246#16),
    (0b11110011011010001010001010010111#32, .iOp111100 27#5 8#5 41623#16),
    (0b11110111110101011111011000011000#32, .iOp111101 30#5 21#5 63000#16),
    (0b11111000001000100100100110011001#32, .iOp111110 1#5 2#5 18841#16),
    (0b11111100100011111001110100011010#32, .iOp111111 4#5 15#5 40218#16)] :
    List (Word × Instr)).all (fun p => decode p.1 == p.2) = true := by
  decide

theorem test_decodeBytes_big :
    decodeBytes .big [0x01#8, 0x2A#8, 0x40#8, 0x20#8, 0xFF#8] = .ok (.rFunc100000 9#5 10#5 8#5 0#5, [0xFF#8]) := rfl

theorem test_decodeBytes_little :
    decodeBytes .little [0x20#8, 0x40#8, 0x2A#8, 0x01#8] = .ok (.rFunc100000 9#5 10#5 8#5 0#5, []) := rfl

theorem test_decodeTableWord :
    decodeTableWord 32 0x0C100008 = some (.jOp000011 1048584#26) ∧ decodeTableWord 32 0x100000000 = none := by decide

/-! ## The core (section 2 and programs P1 to P3 of 95_test_vectors.md) -/

theorem test_classify_vectors : ([
    (0x00000000#32, .shift), (0x00000001#32, .r), (0x00000002#32, .shift), (0x00000003#32, .shift),
    (0x00000004#32, .shift), (0x00000005#32, .r), (0x00000006#32, .shift), (0x00000007#32, .shift), (0x00000008#32, .r),
    (0x00000020#32, .r), (0x0000003F#32, .r), (0x00000040#32, .shift), (0x03FFFFC0#32, .shift), (0x03FFFFC1#32, .r),
    (0x03FFFFC5#32, .r), (0x03FFFFC7#32, .shift), (0x03FFFFC8#32, .r), (0x03FFFFFF#32, .r), (0x04000000#32, .i),
    (0x04000020#32, .i), (0x07FFFFFF#32, .i), (0x08000000#32, .j), (0x08000002#32, .j), (0x0BFFFFFF#32, .j),
    (0x0C000000#32, .j), (0x0FFFFFFF#32, .j), (0x10000000#32, .i), (0x13FFFFFF#32, .i), (0x20000000#32, .i),
    (0x2000003F#32, .i), (0x23FFFFFF#32, .i), (0x40000000#32, .i), (0x7FFFFFFF#32, .i), (0x80000000#32, .i),
    (0xFC000000#32, .i), (0xFFFFFFFF#32, .i)] : List (Word × Sel)).all (fun p => classify p.1 == p.2) = true := by
  decide

theorem test_programs_P1_to_P3_selectors :
    [0x20080000#32, 0x2009000A#32, 0x8C8A0000#32, 0x010A4020#32, 0x20840004#32, 0x2129FFFF#32, 0x1520FFFB#32,
      0x00000000#32, 0xACA80000#32, 0x03E00008#32].map classify
      = [.i, .i, .i, .r, .i, .i, .i, .shift, .i, .r] ∧
    [0x00094080#32, 0x00084042#32, 0x000850C3#32, 0x01285804#32, 0x01285806#32, 0x01285807#32, 0x08100000#32,
      0x0C100008#32, 0x02328022#32, 0x0211402A#32].map classify
      = [.shift, .shift, .shift, .shift, .shift, .shift, .j, .j, .r, .r] ∧
    [0x04110004#32, 0x40086000#32, 0x46000000#32, 0x712A4002#32, 0x0000000C#32, 0x0000000D#32, 0x00000001#32,
      0x00000005#32, 0x012A0018#32, 0x00004010#32, 0x3C081234#32, 0xFFFFFFFF#32].map classify
      = [.i, .i, .i, .i, .r, .r, .r, .r, .r, .r, .i, .i] := by decide

theorem test_field_vectors :
    field 0x012A4020#32 .op = 0#6 ∧ field 0x012A4020#32 .rs = 9#5 ∧ field 0x012A4020#32 .rt = 10#5 ∧
    field 0x012A4020#32 .rd = 8#5 ∧ field 0x012A4020#32 .shamt = 0#5 ∧ field 0x012A4020#32 .func = 32#6 ∧
    field 0x2128FFFF#32 .immediate = 65535#16 ∧ field 0x08100000#32 .target = 1048576#26 ∧
    field 0xFFFFFFFF#32 .target = 67108863#26 ∧ field 0x03FFFFC0#32 .shamt = 31#5 :=
  ⟨rfl, rfl, rfl, rfl, rfl, rfl, rfl, rfl, rfl, rfl⟩

theorem test_operands_vectors :
    operands 0x1520FFFB#32 = [⟨.op, 5#6⟩, ⟨.rt, 0#5⟩, ⟨.rs, 9#5⟩, ⟨.immediate, 65531#16⟩] ∧
    operands 0x000850C3#32 = [⟨.func, 3#6⟩, ⟨.rs, 0#5⟩, ⟨.rt, 8#5⟩, ⟨.shamt, 3#5⟩] ∧
    operands 0x02328022#32 = [⟨.func, 34#6⟩, ⟨.rd, 16#5⟩, ⟨.rs, 17#5⟩, ⟨.rt, 18#5⟩] ∧
    operands 0x0C100008#32 = [⟨.op, 3#6⟩, ⟨.target, 1048584#26⟩] := by decide

/-! ## The host adapters (section 3 and program P4 of 95_test_vectors.md) -/

theorem test_parseWord_values :
    parseWord "00001001010101010101010101010101".toList = .ok 0x09555555#32 ∧
    parseWord "00000001001010100100000000100000".toList = .ok 0x012A4020#32 ∧
    formatWord 0x012A4020#32 = "00000001001010100100000000100000".toList := by decide

theorem test_parseWord_lengths :
    ["", "0000000000000000000000000000000", "000000000000000000000000000000000", "00000000000000000000000000000000\n",
      "0000000000000000000000000000002"].all (fun s =>
        parseWord s.toList == .error (.invalidEncodingLength (.text s.toList))) = true := by decide

theorem test_parseWord_characters :
    [("00000000000000000000000000000002", 31), ("20000000000000000000000000000000", 0),
      ("0000000000000000x000000000000002", 16), (" 0000000000000000000000000000000", 0),
      ("0b000000000000000000000000000000", 1), ("0000_000000000000000000000000000", 4)].all (fun p =>
        parseWord p.1.toList == .error (.invalidBitCharacter p.1.toList p.2)) = true := by decide

theorem test_program_P4 :
    (["00100000000010000000000000000000", "0000000100001010010000000010000", "00000001000010100100000000100000",
      "0000000100001010010000000010000O", "00000000000000000000000000000000", "000011000001000000000000000010000",
      "00001100000100000000000000001000"].map fun s => classifyText s.toList)
      = [.ok descI, .error (.invalidEncodingLength (.text "0000000100001010010000000010000".toList)), .ok descR,
        .error (.invalidBitCharacter "0000000100001010010000000010000O".toList 31), .ok descShift,
        .error (.invalidEncodingLength (.text "000011000001000000000000000010000".toList)), .ok descJ] := by decide

/-- With the default names of 93_implementation_defined.md G3 where the open parameter matters. -/
theorem test_render_vectors :
    render Config.defaultRegNames 29 = .ok "$sp".toList ∧
    render Config.defaultRegNames 26 = .error (.unknownRegisterCode 26) ∧
    render Config.defaultRegNames 27 = .error (.unknownRegisterCode 27) ∧
    render Config.defaultRegNames 32 = .error (.unknownRegisterCode 32) ∧
    render Config.defaultRegNames (-1) = .error (.unknownRegisterCode (-1)) ∧
    render Config.defaultRegNames 0 = .ok "$zero".toList ∧ render Config.defaultRegNames 31 = .ok "$ra".toList := by
  decide

theorem test_parseReg_vectors :
    parseReg Config.defaultRegNames "$sp".toList = some 29 ∧ parseReg Config.defaultRegNames "$31".toList = none ∧
    ["sp", "$29", "$SP", "$"].all (fun s => parseReg Config.defaultRegNames s.toList == none) = true := by decide

/-! ## One step -/

/-- The state an outcome gives, where it gives one. -/
def stateAfter (o : Host.Outcome State Fault Refusal) : Option State :=
  match o with
  | .next t => some t
  | .fault _ => none
  | .refused _ => none

/-- The reset state about to serve calls. -/
def before (calls : List Call) : State := { State.reset with pending := calls }

theorem test_step_presents_fetched_word :
    ((stateAfter (step (State.reset.withFetchWord 32 0x0C100008))).map fun t => (t.word, t.out.sel, t.out.opcode))
      = some (0x0C100008#32, .j, 3#6) := by decide

theorem test_step_func_valid_only_under_opcode_zero :
    ((stateAfter (step (before [.present 0x00000020#32]))).map fun t => (t.out.func, t.out.funcValid, t.out.functionKey))
      = some (32#6, true, some 32#6) ∧
    ((stateAfter (step (before [.present 0x20000020#32]))).map fun t => (t.out.func, t.out.funcValid, t.out.functionKey))
      = some (32#6, false, none) := by decide

theorem test_step_bad_text_leaves_ports :
    ((stateAfter (step (before [.classifyText ['2'], .present 1#32]))).map fun t => (t.word, t.pending, t.results))
      = some (0#32, [.present 1#32], [.raised (.invalidEncodingLength (.text ['2']))]) := by decide

theorem test_step_integer_and_bytes :
    ((stateAfter (step (before [.classifyInteger 32]))).map fun t => t.out.desc) = some descR ∧
    ((stateAfter (step (before [.classifyInteger (-1)]))).map fun t => t.results)
      = some [.raised (.invalidEncodingLength (.integer (-1)))] ∧
    ((stateAfter (step (before [.presentBytes .big 0x08#8 0#8 0#8 0#8]))).map fun t => t.out.sel) = some .j ∧
    ((stateAfter (step (before [.presentBytes .little 0x08#8 0#8 0#8 0#8]))).map fun t => t.out.sel) = some .r := by
  decide

/-! ## Witnesses: for each statement with hypotheses, values that meet them, at the ends of their ranges -/

theorem witness_OpcodesThatSelectDescI :
    opOf 0x08000000#32 ∈ jSet ∧ opOf 0x0FFFFFFF#32 ∈ jSet ∧
    (opOf 0x04000000#32 ≠ rFamilyOpcode ∧ opOf 0x04000000#32 ∉ jSet) ∧
    (opOf 0xFFFFFFFF#32 ≠ rFamilyOpcode ∧ opOf 0xFFFFFFFF#32 ∉ jSet) := by decide

theorem witness_KindOfSelectorAndOfWord : opOf 0x00000000#32 = opOf 0x03FFFFFF#32 := by decide

theorem witness_ShiftOutcome : classify 0x03FFFFC7#32 = .shift := by decide

theorem witness_ROutcome : classify 0x03FFFFFF#32 = .r := by decide

theorem witness_JOutcome : classify 0x0FFFFFFF#32 = .j := by decide

theorem witness_IOutcome : classify 0x07FFFFFF#32 = .i := by decide

theorem witness_OutcomesPartitionAllWords :
    (opOf 0x00000007#32 = 0#6 ∧ funcOf 0x00000007#32 ∈ shiftSet) ∧
    (opOf 0x00000008#32 = 0#6 ∧ funcOf 0x00000008#32 ∉ shiftSet) ∧
    (opOf 0x08000000#32 = 2#6 ∨ opOf 0x08000000#32 = 3#6) ∧
    (opOf 0x10000000#32 ≠ 0#6 ∧ opOf 0x10000000#32 ≠ 2#6 ∧ opOf 0x10000000#32 ≠ 3#6) := by decide

theorem witness_ClassifyIgnoresOtherBits :
    (opOf 0x00000004#32 = opOf 0x03FFFFC4#32 ∧ funcOf 0x00000004#32 = funcOf 0x03FFFFC4#32) ∧
    (opOf 0x08000000#32 = opOf 0x0BFFFFFF#32 ∧ opOf 0x08000000#32 ≠ 0#6) ∧
    0x00000004#32 &&& 0xFC00003F#32 = 0x03FFFFC4#32 &&& 0xFC00003F#32 ∧
    0x08000000#32 &&& 0xFC000000#32 = 0x0BFFFFFF#32 &&& 0xFC000000#32 := by decide

theorem witness_OpcodeAndFunctionCodeMaps : (1#6 : BitVec 6) ≠ 0#6 ∧ (63#6 : BitVec 6) ≠ 0#6 := by decide

theorem witness_FieldPositions : (0 < FieldName.rs.width) ∧ (25 < FieldName.target.width) := by decide

theorem witness_DecodeOfEncode :
    (Instr.rFunc111111 31#5 31#5 31#5 31#5).wellFormed = true ∧ (Instr.jOp000010 0#26).wellFormed = true := ⟨rfl, rfl⟩

theorem witness_OpcodeTablePartitionsWords :
    (opcodeTable.head?.map fun r => r.holds 0x03FFFFC0#32) = some true ∧
    (opcodeTable.getLast?.map fun r => r.holds 0xFC000000#32) = some true := by decide

theorem witness_DecodedNameIsTheRowsName :
    (opcodeTable[126]?.map fun r => (r.holds 0xFFFFFFFF#32, r.mnemonic)) = some (true, "I_op_111111") := by decide

theorem witness_WordsFromBytes : ([] : List Byte).length < 4 ∧ [1#8, 2#8, 3#8].length < 4 := by decide

theorem witness_OperandsOfAWord : classify 0x00000000#32 = .shift ∧ classify 0x00000001#32 = .r := by decide

theorem witness_DecompositionFollowsSelector : classify 0x04000000#32 = classify 0xFFFFFFFF#32 := by decide

theorem witness_MnemonicKeys :
    (opOf 0x00000020#32 = opOf 0x03FFFFE0#32 ∧ funcOf 0x00000020#32 = funcOf 0x03FFFFE0#32) ∧
    (opOf 0x20000000#32 = opOf 0x2000003F#32 ∧ opOf 0x20000000#32 ≠ 0#6) := by decide

theorem witness_rows_of_completions :
    (exec (.shiftFunc000000 31#5 0#5 0#5 31#5) State.reset =
      .next (drive 0x03E007C0#32 .shift State.reset)) ∧
    (exec (.rFunc111111 0#5 0#5 31#5 0#5) State.reset = .next (drive 0x0000F83F#32 .r State.reset)) ∧
    (exec (.jOp000011 67108863#26) State.reset = .next (drive 0x0FFFFFFF#32 .j State.reset)) ∧
    (exec (.iOp000001 0#5 31#5 65535#16) State.reset = .next (drive 0x041FFFFF#32 .i State.reset)) :=
  ⟨rfl, rfl, rfl, rfl⟩

theorem witness_StepRunsDecodedInstruction_and_PortsFollowPresentedWord :
    (before [.present 0xFFFFFFFF#32]).pending = .present 0xFFFFFFFF#32 :: [] := rfl

theorem witness_FetchedWordRunsNext : 0 < 2 ^ 32 ∧ 4294967295 < 2 ^ 32 := by decide

theorem witness_StepKeepsPortsSound :
    (before [.present 1#32]).Sound ∧ step (before [.present 1#32]) = .next (drive 1#32 .r State.reset) :=
  ⟨⟨rfl, fun _ h => absurd h List.not_mem_nil⟩, rfl⟩

theorem witness_RunsNeverStop :
    (before [.present 1#32]).Sound ∧ Host.Core.run core 0 (before []) = .next (before []) :=
  ⟨⟨rfl, fun _ h => absurd h List.not_mem_nil⟩, rfl⟩

theorem witness_OtherFormsOfAWordReachTheBlock :
    (before [.classifyText (List.replicate 32 '0')]).pending = .classifyText (List.replicate 32 '0') :: [] ∧
    classifyText (List.replicate 32 '0') = .ok descShift ∧
    classifyText [] = .error (.invalidEncodingLength (.text [])) ∧
    parseWord (List.replicate 32 '0') = .ok 0#32 ∧
    (before [.classifyInteger 4294967295]).pending = .classifyInteger 4294967295 :: [] ∧
    ((0 : Int) ≤ 4294967295 ∧ (4294967295 : Int) < 2 ^ 32) ∧ ((4294967296 : Int) ≥ 2 ^ 32) ∧
    (before [.presentBytes .big 0#8 0#8 0#8 255#8]).pending = .presentBytes .big 0#8 0#8 0#8 255#8 :: [] := by decide

theorem witness_ResultIndependentOfHistory :
    (before [.present 1#32]).pending = .present 1#32 :: [] ∧
    (drive 7#32 .shift (before [.present 1#32, .render 26])).pending = .present 1#32 :: [.render 26] := ⟨rfl, rfl⟩

theorem witness_FailedCallLeavesNothingBehind :
    (before [.wordOfNat (-1), .present 1#32]).pending = .wordOfNat (-1) :: .present 1#32 :: [] ∧
    resultOf (.wordOfNat (-1)) = .raised (.invalidEncodingLength (.integer (-1))) := by decide

theorem witness_AdaptersLeavePortsUnchanged :
    (before [.parseReg ['$']]).pending = .parseReg ['$'] :: [] ∧ (before [.fields 0#32]).pending = .fields 0#32 :: [] ∧
    parseWord (List.replicate 32 '1') = .ok 0xFFFFFFFF#32 ∧
    parseWord ['1'] = .error (.invalidEncodingLength (.text ['1'])) ∧
    wordOfNat 4294967295 = .ok 0xFFFFFFFF#32 ∧
    wordOfNat 4294967296 = .error (.invalidEncodingLength (.integer 4294967296)) ∧
    render Config.regNames 32 = .error (.unknownRegisterCode 32) := by decide

/-- Rules R95 and R96 give one word's fields and operands in different orders; each call answers its own. -/
theorem test_fields_and_operands_results :
    resultOf (.fields 0x08000020#32) = .fieldValues [⟨.op, 2#6⟩, ⟨.target, 32#26⟩] ∧
    resultOf (.operands 0x2128FFFF#32) =
      .fieldValues [⟨.op, 8#6⟩, ⟨.rt, 8#5⟩, ⟨.rs, 9#5⟩, ⟨.immediate, 65535#16⟩] := by decide

theorem witness_IdleStepChangesNothing : State.reset.pending = [] := rfl

theorem witness_ParseWordOutcomes :
    (List.replicate 31 '0').length ≠ 32 ∧ (List.replicate 33 '0').length ≠ 32 ∧
    ((List.replicate 31 '1' ++ ['2']).length = 32 ∧ (List.replicate 31 '1' ++ ['2'])[31]? = some '2') ∧
    (('x' :: List.replicate 31 '1').length = 32 ∧ ('x' :: List.replicate 31 '1')[0]? = some 'x') ∧
    ((List.replicate 32 '1').length = 32 ∧ ∀ c ∈ List.replicate 32 '1', c = '0' ∨ c = '1') :=
  ⟨by decide, by decide, by decide, by decide, rfl, fun _ h => .inr (List.eq_of_mem_replicate h)⟩

theorem witness_ParseWordValueLaw_and_FormatWordInvertsParseWord :
    parseWord (List.replicate 32 '1') = .ok 0xFFFFFFFF#32 ∧ parseWord (List.replicate 32 '0') = .ok 0#32 := by decide

theorem witness_BitOrderOfTextAndInteger :
    (List.replicate 31 '0' ++ ['1']).length = 32 ∧ ∀ c ∈ List.replicate 31 '0' ++ ['1'], c = '0' ∨ c = '1' :=
  ⟨rfl, fun _ h => (List.mem_append.mp h).imp List.eq_of_mem_replicate List.eq_of_mem_singleton⟩

theorem witness_ClassifyTextOutcomes :
    parseWord [] = .error (.invalidEncodingLength (.text [])) ∧ parseWord (List.replicate 32 '1') = .ok 0xFFFFFFFF#32 := by
  decide

theorem witness_WordOfNatOutcomes :
    ((-1 : Int) < 0) ∧ ((4294967296 : Int) ≥ 2 ^ 32) ∧ ((0 : Int) ≤ 0 ∧ (0 : Int) < 2 ^ 32) ∧
    ((0 : Int) ≤ 4294967295 ∧ (4294967295 : Int) < 2 ^ 32) := by decide

theorem witness_RenderOutcomes :
    ((-1 : Int) < 0) ∧ ((32 : Int) > 31) ∧ ((0 : Int) ≤ 0 ∧ (0 : Int) ≤ 31 ∧ (0 : Int) ≠ 26 ∧ (0 : Int) ≠ 27) ∧
    ((0 : Int) ≤ 31 ∧ (31 : Int) ≤ 31 ∧ (31 : Int) ≠ 26 ∧ (31 : Int) ≠ 27) ∧
    ((25 : Int) ≠ 26 ∧ (25 : Int) ≠ 27 ∧ (28 : Int) ≠ 26 ∧ (28 : Int) ≠ 27) := by decide

theorem witness_RegisterNameRoundTrip :
    ((0 : Fin 32).val ≠ 26 ∧ (0 : Fin 32).val ≠ 27) ∧ ((31 : Fin 32).val ≠ 26 ∧ (31 : Fin 32).val ≠ 27) ∧
    (∀ c : Fin 32, render Config.defaultRegNames (c.val : Int) ≠ .ok ['$']) := by decide

theorem witness_CallsThatRaise :
    resultOf (.classifyText ['0']) = .raised (.invalidEncodingLength (.text ['0'])) ∧
    resultOf (.parseWord (List.replicate 31 '1' ++ ['2']))
      = .raised (.invalidBitCharacter (List.replicate 31 '1' ++ ['2']) 31) ∧
    resultOf (.classifyInteger 4294967296) = .raised (.invalidEncodingLength (.integer 4294967296)) ∧
    resultOf (.render 32) = .raised (.unknownRegisterCode 32) ∧
    resultOf (.render (-1)) = .raised (.unknownRegisterCode (-1)) := ⟨rfl, rfl, rfl, rfl, rfl⟩

theorem witness_RegisterNamesConstrained :
    (25 < 32 ∧ 25 ≠ 26 ∧ 25 ≠ 27) ∧ (28 < 32 ∧ 28 ≠ 26 ∧ 28 ≠ 27) ∧
    Config.defaultRegNames.name 28 = some "gp".toList := by decide

end Sys2Proof.Tests
end

section
/-! PROOFS. The constants of the block (10_state.md): what the checks on a register name table say of the names,
what each row of the descriptor table is, and which opcodes and function codes are in the two sets. -/

namespace Sys2Proof.Config

/-! ## Register name tables (rules R9, R34) -/

variable {names : List (Option Text)}

theorem nameAt_eq_some_iff {c : Nat} {n : Text} : nameAt names c = some n ↔ names[c]? = some (some n) := by
  simp only [nameAt, List.getD_eq_getElem?_getD]
  cases names[c]? <;> simp

theorem sourceNamesKept_iff : sourceNamesKept names = true ↔
    nameAt names 29 = some "sp".toList ∧ nameAt names 26 = none ∧ nameAt names 27 = none := by
  simp [sourceNamesKept, and_assoc]

theorem othersNamed_iff : othersNamed names = true ↔
    ∀ c, c < 32 → c ≠ 26 → c ≠ 27 → ∃ n, nameAt names c = some n := by
  simp [othersNamed, Option.isSome_iff_exists, or_iff_not_imp_left]

/-- A name of a table that passes the check is not empty and does not hold the sigil. -/
theorem nameAt_plain (h : namesPlain names = true) {c : Nat} {n : Text} (hc : nameAt names c = some n) :
    n ≠ [] ∧ '$' ∉ n := by
  have mem : some n ∈ names := List.mem_of_getElem? (nameAt_eq_some_iff.mp hc)
  simpa using List.all_eq_true.mp h _ mem

/-- Of two places of a table that passes the check, the later does not hold the earlier's name. -/
theorem nameAt_ne_of_lt (h : namesDistinct names = true) {c d : Nat} (hlt : c < d) {n : Text}
    (hc : nameAt names c = some n) : nameAt names d ≠ some n := by
  intro hd
  have distinct := List.pairwise_filterMap.mp (of_decide_eq_true h)
  obtain ⟨c_lt, hc⟩ := List.getElem?_eq_some_iff.mp (nameAt_eq_some_iff.mp hc)
  obtain ⟨d_lt, hd⟩ := List.getElem?_eq_some_iff.mp (nameAt_eq_some_iff.mp hd)
  exact List.pairwise_iff_getElem.mp distinct c d c_lt d_lt hlt n hc n hd rfl

theorem nameAt_inj (h : namesDistinct names = true) {c d : Nat} {n : Text}
    (hc : nameAt names c = some n) (hd : nameAt names d = some n) : c = d := by
  rcases lt_trichotomy c d with hlt | heq | hgt
  · exact absurd hd (nameAt_ne_of_lt h hlt hc)
  · exact heq
  · exact absurd hc (nameAt_ne_of_lt h hgt hd)

theorem admissible_iff : admissible names = true ↔
    has32Codes names = true ∧ sourceNamesKept names = true ∧ othersNamed names = true ∧
      namesPlain names = true ∧ namesDistinct names = true := by
  simp only [admissible, Bool.and_eq_true, and_assoc]

/-- Settles O55: the four checks on the names that an admissible table passes, each as what it says of `REG_NAME`. -/
theorem registerNamesConstrained : Obligations.RegisterNamesConstrained := by
  unfold Obligations.RegisterNamesConstrained
  intro names
  obtain ⟨-, source, others, plain, distinct⟩ := admissible_iff.mp names.ok
  obtain ⟨sp, none26, none27⟩ := sourceNamesKept_iff.mp source
  refine ⟨sp, none26, none27, fun c hc h26 h27 => ?_, fun c d n hc hd => nameAt_inj distinct hc hd⟩
  obtain ⟨n, hn⟩ := othersNamed_iff.mp others c hc h26 h27
  exact ⟨n, hn, nameAt_plain plain hn⟩

end Sys2Proof.Config

namespace Sys2Proof.Machine

/-! ## The descriptor table (rules R23, R24) -/

/-- Settles O1: the table is the constants of the rule, row by row. -/
theorem descriptorTableAsGiven : Obligations.DescriptorTableAsGiven :=
  ⟨rfl, rfl, rfl, rfl, rfl, rfl, rfl, rfl⟩

theorem exists_desc_eq_iff (d : FormatDescriptor) :
    (∃ s, desc s = d) ↔ d ∈ [descR, descShift, descI, descJ] := by
  simp only [List.mem_cons, List.not_mem_nil, or_false]
  constructor
  · rintro ⟨s, rfl⟩
    cases s <;> simp [desc]
  · rintro (rfl | rfl | rfl | rfl)
    exacts [⟨.r, rfl⟩, ⟨.shift, rfl⟩, ⟨.i, rfl⟩, ⟨.j, rfl⟩]

theorem desc_widths_sum (s : Sel) : ((desc s).fields.map Prod.snd).sum = 32 := by
  cases s <;> rfl

theorem desc_operands_are_fields (s : Sel) : ∀ n ∈ (desc s).operandOrder, n ∈ (desc s).fields.map Prod.fst := by
  cases s <;> decide

theorem desc_names_once (s : Sel) : ((desc s).fields.map Prod.fst).Nodup ∧ (desc s).operandOrder.Nodup := by
  cases s <;> decide

theorem desc_first_field (s : Sel) : (desc s).fields.head? = some (.op, 6) := by
  cases s <;> rfl

theorem desc_first_operand (s : Sel) :
    (desc s).operandOrder.head? = some (if (desc s).kind = .r then .func else .op) := by
  cases s <;> rfl

/-- Settles O2: each item by selector where it speaks of every descriptor, and on the constants otherwise. -/
theorem descriptorTableInvariants : Obligations.DescriptorTableInvariants := by
  unfold Obligations.DescriptorTableInvariants
  refine ⟨⟨by decide, exists_desc_eq_iff⟩, desc_widths_sum, desc_operands_are_fields, ⟨?_, ?_⟩, ⟨?_, ?_⟩,
    desc_names_once, desc_first_field, desc_first_operand, ?_⟩
  · decide -- the operands of the kinds I and J are all their fields
  · decide -- four of the six fields are operands of the R kind
  · decide -- `op` is no operand of the R kind
  · decide -- `op` is the first operand of the kinds I and J
  · decide -- the fields left out of each operand order

/-! ## The sets of function codes and opcodes (rules R25, R26) -/

theorem mem_shiftSet_iff (f : BitVec 6) : f ∈ shiftSet ↔ f.toNat < 8 ∧ f ≠ 1#6 ∧ f ≠ 5#6 := by
  simp only [shiftSet, List.mem_cons, List.not_mem_nil, or_false, ne_eq, BitVec.toNat_eq, BitVec.toNat_ofNat]
  omega

/-- Settles O3: the list as written, and membership by value. -/
theorem shiftSetMembers : Obligations.ShiftSetMembers :=
  ⟨rfl, rfl, mem_shiftSet_iff, by decide, rfl⟩

theorem mem_jSet_iff (op : BitVec 6) : op ∈ jSet ↔ op.toNat = 2 ∨ op.toNat = 3 := by
  simp [jSet, BitVec.toNat_eq]

theorem eq_rFamilyOpcode_iff (op : BitVec 6) : op = rFamilyOpcode ↔ op.toNat = 0 := by
  simp [rFamilyOpcode, BitVec.toNat_eq]

/-- The opcodes of the catch-all outcome, by value (rule R26). -/
theorem iOpcode_iff (op : BitVec 6) :
    op ≠ rFamilyOpcode ∧ op ∉ jSet ↔ op.toNat = 1 ∨ (4 ≤ op.toNat ∧ op.toNat ≤ 63) := by
  have := op.isLt
  rw [ne_eq, eq_rFamilyOpcode_iff, mem_jSet_iff]
  omega

theorem dispatch_eq_descJ {w : Word} (hj : opOf w ∈ jSet) : dispatch w = descJ := by
  rw [dispatch, classify_eq_j hj, desc]

theorem dispatch_eq_descI {w : Word} (hop : opOf w ≠ rFamilyOpcode) (hj : opOf w ∉ jSet) : dispatch w = descI := by
  rw [dispatch, classify_eq_i hop hj, desc]

/-- Settles O4: outcomes `J` and `I` of the classifier through the mux, and the catch-all's opcodes by value. -/
theorem opcodesThatSelectDescI : Obligations.OpcodesThatSelectDescI :=
  ⟨rfl, rfl, fun _ => dispatch_eq_descJ, fun _ => dispatch_eq_descI, iOpcode_iff, by decide⟩

end Sys2Proof.Machine
end

section
/-! PROOFS. The two forms of a word (20_memory.md section 2): its value as the sum of its bits' weights, the characters
of its text, and the string that denotes it. -/

namespace Sys2Proof.Machine

/-! ## The integer form (rule R42) -/

/-- The low `k` bits of a number, by weight. -/
theorem mod_two_pow_eq_sum_bits (n k : Nat) :
    n % 2 ^ k = ∑ i ∈ Finset.range k, (if n.testBit i = true then 1 else 0) * 2 ^ i := by
  induction k with
  | zero => rw [pow_zero, Nat.mod_one, Finset.sum_range_zero]
  | succ k ih =>
    have top_bit : n / 2 ^ k % 2 = if n.testBit k = true then 1 else 0 := by
      rw [← Nat.toNat_testBit, Bool.toNat, Bool.cond_eq_ite]
    rw [Nat.mod_pow_succ, top_bit, Finset.sum_range_succ, ← ih, mul_comm]

theorem toNat_eq_sum_bits (w : Word) :
    w.toNat = ∑ i ∈ Finset.range 32, (if w.getLsbD i = true then 1 else 0) * 2 ^ i := by
  rw [← Nat.mod_eq_of_lt w.isLt, mod_two_pow_eq_sum_bits]
  rfl

/-! ## The textual form (rules R42, R102) -/

theorem formatWord_getElem? (w : Word) {i : Nat} (hi : i < 32) :
    (formatWord w)[i]? = some (if w.getLsbD (31 - i) = true then '1' else '0') := by
  rw [formatWord, List.getElem?_map, List.getElem?_range hi, Option.map_some]

theorem formatWord_getElem?_eq_one_iff (w : Word) {i : Nat} (hi : i < 32) :
    (formatWord w)[i]? = some '1' ↔ w.getLsbD (31 - i) = true := by
  rw [formatWord_getElem? w hi]
  cases w.getLsbD (31 - i) <;> decide

/-! ## A string as a binary numeral (rules R42, R101) -/

theorem numeral_concat (t : Text) (c : Char) :
    numeral (t ++ [c]) = 2 * numeral t + (if c = '1' then 1 else 0) := by
  rw [numeral, List.foldl_append, List.foldl_cons, List.foldl_nil, numeral]

theorem numeral_lt (t : Text) : numeral t < 2 ^ t.length := by
  induction t using List.reverseRecOn with
  | nil => decide
  | append_singleton t c ih =>
    rw [numeral_concat, List.length_append, List.length_singleton, pow_succ]
    split <;> omega

/-- The numeral of 32 characters fits in a word, so the word denoted keeps it whole. -/
theorem parseWord_eq_ok_iff_numeral {t : Text} (h : t.length = 32) (hbits : ∀ c ∈ t, c = '0' ∨ c = '1') (w : Word) :
    parseWord t = .ok w ↔ numeral t = w.toNat := by
  have fits : numeral t < 2 ^ 32 := h ▸ numeral_lt t
  rw [parseWord_of_bits h hbits, Except.ok.injEq, ← BitVec.toNat_inj, BitVec.toNat_ofNat, Nat.mod_eq_of_lt fits]

/-- Settles O50: a word's value by its bits, the two end characters of its text, and the string that denotes it. -/
theorem bitOrderOfTextAndInteger : Obligations.BitOrderOfTextAndInteger :=
  ⟨toNat_eq_sum_bits,
    fun w => ⟨formatWord_getElem?_eq_one_iff w (by decide), formatWord_getElem?_eq_one_iff w (by decide)⟩,
    fun _ w hlen hbits => parseWord_eq_ok_iff_numeral hlen hbits w⟩

end Sys2Proof.Machine
end

section
/-! PROOFS. The encoding of a word (30_encoding.md): the opcode map and the function-code map (rule R58), and the place
of every field (rule R52). -/

namespace Sys2Proof.Machine

/-! ## The two maps (rule R58) -/

/-- The opcode map, whatever the 26 bits below the opcode. -/
theorem classify_jLayout (op : BitVec 6) (below : BitVec 26) (hop : op ≠ 0#6) :
    classify (jLayout op below) = if op = 2#6 ∨ op = 3#6 then .j else .i := by
  split
  case isTrue hj => exact classify_eq_j (by simpa [jSet] using hj)
  case isFalse hj => exact classify_eq_i (by simpa [rFamilyOpcode] using hop) (by simpa [jSet] using hj)

/-- The function-code map under opcode 000000, whatever the 20 bits between. -/
theorem classify_rLayout (rs rt rd shamt : BitVec 5) (func : BitVec 6) :
    classify (rLayout 0#6 rs rt rd shamt func) =
      if func.toNat < 8 ∧ func.toNat ≠ 1 ∧ func.toNat ≠ 5 then .shift else .r := by
  have hop : opOf (rLayout 0#6 rs rt rd shamt func) = rFamilyOpcode := opOf_rLayout ..
  have hset : funcOf (rLayout 0#6 rs rt rd shamt func) ∈ shiftSet ↔
      func.toNat < 8 ∧ func.toNat ≠ 1 ∧ func.toNat ≠ 5 := by
    simp [mem_shiftSet_iff, BitVec.toNat_eq]
  split
  case isTrue h => exact classify_eq_shift hop (hset.mpr h)
  case isFalse h => exact classify_eq_r hop (mt hset.mp h)

/-- Settles O14: the two maps on every word of their layouts, and the rule's counts over the 64 codes of each. -/
theorem opcodeAndFunctionCodeMaps : Obligations.OpcodeAndFunctionCodeMaps := by
  unfold Obligations.OpcodeAndFunctionCodeMaps
  refine ⟨classify_jLayout, classify_rLayout, ?_, ?_, ?_, ?_, ?_⟩
  · decide -- six function codes give `SHIFT`
  · decide -- the other 58 give `R`
  · decide -- one opcode is the R family's
  · decide -- two opcodes give `J`
  · decide -- the other 61 give `I`

/-! ## A field as a slice of its word (rule R52) -/

/-- The low bit of each field's place in the word. -/
def lowBit : FieldName → Nat
  | .op => 26
  | .rs => 21
  | .rt => 16
  | .rd => 11
  | .shamt => 6
  | .func => 0
  | .immediate => 0
  | .target => 0

/-- Every field is the slice of its own width above its low bit. -/
theorem field_eq_extractLsb' (w : Word) (name : FieldName) :
    field w name = w.extractLsb' (lowBit name) name.width := by
  cases name <;> rfl

theorem field_toNat (w : Word) (name : FieldName) :
    (field w name).toNat = w.toNat / 2 ^ lowBit name % 2 ^ name.width := by
  rw [field_eq_extractLsb', BitVec.extractLsb'_toNat, Nat.shiftRight_eq_div_pow]

theorem field_getLsbD (w : Word) (name : FieldName) {k : Nat} (hk : k < name.width) :
    (field w name).getLsbD k = w.getLsbD (lowBit name + k) := by
  rw [field_eq_extractLsb', BitVec.getLsbD_extractLsb', decide_eq_true hk, Bool.true_and]

/-- A mask whose bits from the low bit up are ones as far as the field is wide leaves the field. -/
theorem field_toNat_eq_masked (w : Word) {name : FieldName} {mask : Word}
    (hmask : mask.toNat / 2 ^ lowBit name = 2 ^ name.width - 1) :
    (field w name).toNat = (w &&& mask).toNat / 2 ^ lowBit name := by
  rw [field_toNat, BitVec.toNat_and, Nat.and_div_two_pow, hmask, Nat.and_two_pow_sub_one_eq_mod]

/-! ## A field as a substring of its word's text (rules R11, R52) -/

/-- A substring one character longer ends in the text's next character. -/
theorem substring_succ {t : Text} {a k : Nat} {c : Char} (h : t[a + k]? = some c) :
    substring t a (a + (k + 1)) = substring t a (a + k) ++ [c] := by
  simp only [substring, Nat.add_sub_cancel_left, List.take_add_one, List.getElem?_drop, h, Option.toList_some]

/-- What a character of a word's text adds to a numeral is its bit. -/
theorem bitChar_value (b : Bool) : (if (if b = true then '1' else '0') = '1' then 1 else 0) = b.toNat := by
  cases b <;> decide

/-- The `k` characters of a word's text from index `a` on, as a numeral, are the `k` bits from bit `low` up. -/
theorem numeral_substring_formatWord (w : Word) {a k low : Nat} (h : a + k + low = 32) :
    numeral (substring (formatWord w) a (a + k)) = w.toNat / 2 ^ low % 2 ^ k := by
  induction k generalizing low with
  | zero => simp [substring, numeral, Nat.mod_one]
  | succ k ih =>
    have next_bit : 31 - (a + k) = low := by omega
    have next_char := substring_succ (formatWord_getElem? w (show a + k < 32 by omega))
    calc numeral (substring (formatWord w) a (a + (k + 1)))
        = 2 * (w.toNat / 2 ^ (low + 1) % 2 ^ k) + w.toNat / 2 ^ low % 2 := by
          rw [next_char, numeral_concat, bitChar_value, next_bit, BitVec.getLsbD, Nat.toNat_testBit,
            ih (low := low + 1) (by omega)]
      _ = w.toNat / 2 ^ low % 2 ^ (k + 1) := by
          rw [pow_succ 2 low, ← Nat.div_div_eq_div_mul, pow_succ' 2 k, Nat.mod_mul, Nat.add_comm]

/-- The string indices of a field are counted from the other end of the word than its bits. -/
theorem numeral_substring_field (w : Word) {name : FieldName} {a b : Nat} (hb : b = a + name.width)
    (hlow : b + lowBit name = 32) : numeral (substring (formatWord w) a b) = (field w name).toNat := by
  subst hb
  rw [numeral_substring_formatWord w hlow, field_toNat]

/-- What rule R52's table says of every word's field, from the numbers in the field's row. -/
theorem field_at_place (w : Word) {name : FieldName} {a b : Nat} {mask : Word} (hb : b = a + name.width)
    (hlow : b + lowBit name = 32) (hmask : mask.toNat / 2 ^ lowBit name = 2 ^ name.width - 1) :
    (field w name).toNat = (w &&& mask).toNat / 2 ^ lowBit name ∧
      (∀ k, k < name.width → (field w name).getLsbD k = w.getLsbD (lowBit name + k)) ∧
      numeral (substring (formatWord w) a b) = (field w name).toNat :=
  ⟨field_toNat_eq_masked w hmask, fun _ => field_getLsbD w name, numeral_substring_field w hb hlow⟩

/-- Settles O17: row by row, the row's numbers and layouts by computation, and every word's field by its place. -/
theorem fieldPositions : Obligations.FieldPositions := by
  unfold Obligations.FieldPositions
  intro row hrow
  simp only [List.mem_cons, List.not_mem_nil, or_false] at hrow
  rcases hrow with rfl | rfl | rfl | rfl | rfl | rfl | rfl | rfl
  all_goals
    refine ⟨rfl, rfl, rfl, rfl, fun s => ?layouts, fun w => field_at_place w rfl rfl rfl⟩
    case layouts => cases s <;> decide

end Sys2Proof.Machine
end

section
/-! PROOFS. The classifier's outcomes (40_classify.md): each outcome's condition on the opcode and the function code, by
field (rules R72 to R75) and by mask, the kind (rule R81), the gate-level form (rule R76), what the classifier does not
read (rule R78), and how many words each outcome has (rule R77). -/

namespace Sys2Proof.Machine

/-! ## The outcome conditions by field (rules R72 to R75) -/

/-- What rules R72 to R75 ask of a word for each outcome. -/
def outcomeCondition (w : Word) : Sel → Prop
  | .shift => opOf w = 0#6 ∧ funcOf w ∈ shiftSet
  | .r => opOf w = 0#6 ∧ funcOf w ∉ shiftSet
  | .j => opOf w = 2#6 ∨ opOf w = 3#6
  | .i => opOf w ≠ 0#6 ∧ opOf w ≠ 2#6 ∧ opOf w ≠ 3#6

theorem mem_jSet_iff_eq (op : BitVec 6) : op ∈ jSet ↔ op = 2#6 ∨ op = 3#6 := by
  simp [jSet]

theorem classify_eq_of_outcomeCondition {w : Word} {s : Sel} (h : outcomeCondition w s) : classify w = s := by
  cases s with
  | shift => exact classify_eq_shift h.1 h.2
  | r => exact classify_eq_r h.1 h.2
  | j => exact classify_eq_j ((mem_jSet_iff_eq _).mpr h)
  | i => exact classify_eq_i h.1 (by rw [mem_jSet_iff_eq, not_or]; exact h.2)

theorem exists_outcomeCondition (w : Word) : ∃ s, outcomeCondition w s := by
  by_cases hop : opOf w = 0#6
  · by_cases hfunc : funcOf w ∈ shiftSet
    · exact ⟨.shift, hop, hfunc⟩
    · exact ⟨.r, hop, hfunc⟩
  · by_cases hj : opOf w = 2#6 ∨ opOf w = 3#6
    · exact ⟨.j, hj⟩
    · exact ⟨.i, hop, not_or.mp hj⟩

/-- The classifier answers the one outcome whose condition holds. -/
theorem classify_eq_iff (w : Word) (s : Sel) : classify w = s ↔ outcomeCondition w s := by
  refine ⟨fun h => ?_, classify_eq_of_outcomeCondition⟩
  obtain ⟨t, ht⟩ := exists_outcomeCondition w
  rw [← h, classify_eq_of_outcomeCondition ht]
  exact ht

/-! ## The outcome conditions by mask -/

theorem opOf_and_funcMask (w : Word) : opOf (w &&& 0xFC00003F#32) = opOf w := by
  rw [and_funcMask, opOf_rLayout]

theorem funcOf_and_funcMask (w : Word) : funcOf (w &&& 0xFC00003F#32) = funcOf w := by
  rw [and_funcMask, funcOf_rLayout]

theorem opOf_and_opMask (w : Word) : opOf (w &&& 0xFC000000#32) = opOf w := by
  rw [and_opMask, opOf_jLayout]

/-- A function code alone is a word of the R layout whose other fields are zero. -/
theorem setWidth_eq_rLayout (f : BitVec 6) : f.setWidth 32 = rLayout 0#6 0#5 0#5 0#5 0#5 f := by
  apply BitVec.eq_of_toNat_eq
  rw [BitVec.toNat_setWidth, rLayout_toNat, Nat.mod_eq_of_lt (by omega)]
  simp

/-- An opcode moved to its place is a word of the J layout whose target is zero. -/
theorem setWidth_shiftLeft_eq_jLayout (op : BitVec 6) : op.setWidth 32 <<< 26 = jLayout op 0#26 := by
  apply BitVec.eq_of_toNat_eq
  rw [BitVec.toNat_shiftLeft, BitVec.toNat_setWidth, jLayout_toNat, Nat.shiftLeft_eq]
  simp
  omega

theorem and_funcMask_eq_setWidth_iff (w : Word) (f : BitVec 6) :
    w &&& 0xFC00003F#32 = f.setWidth 32 ↔ opOf w = 0#6 ∧ funcOf w = f := by
  rw [setWidth_eq_rLayout]
  constructor
  · intro h
    rw [← opOf_and_funcMask, ← funcOf_and_funcMask, h, opOf_rLayout, funcOf_rLayout]
    exact ⟨rfl, rfl⟩
  · rintro ⟨hop, rfl⟩
    rw [and_funcMask, hop]

theorem and_opMask_eq_shiftLeft_iff (w : Word) (op : BitVec 6) :
    w &&& 0xFC000000#32 = op.setWidth 32 <<< 26 ↔ opOf w = op := by
  rw [setWidth_shiftLeft_eq_jLayout]
  constructor
  · intro h
    rw [← opOf_and_opMask, h, opOf_jLayout]
  · rintro rfl
    exact and_opMask w

/-- A condition on the function code under opcode zero, as a condition on the word under its mask. -/
theorem opOf_zero_and_funcOf_iff (w : Word) (p : BitVec 6 → Prop) :
    opOf w = 0#6 ∧ p (funcOf w) ↔ ∃ f, p f ∧ w &&& 0xFC00003F#32 = f.setWidth 32 := by
  simp only [and_funcMask_eq_setWidth_iff]
  constructor
  · rintro ⟨hop, hp⟩
    exact ⟨funcOf w, hp, hop, rfl⟩
  · rintro ⟨f, hp, hop, rfl⟩
    exact ⟨hop, hp⟩

/-- The mux gives a classified word its selector's descriptor. -/
theorem dispatch_eq_desc {w : Word} {s : Sel} (h : classify w = s) : dispatch w = desc s := by
  rw [dispatch, h]

/-! ## Outcome `SHIFT` (rule R72) -/

/-- The six patterns of the rule are the function codes of the set. -/
theorem mem_shiftPatterns_iff (v : Word) :
    v ∈ [0x00000000#32, 0x00000002#32, 0x00000003#32, 0x00000004#32, 0x00000006#32, 0x00000007#32] ↔
      ∃ f, f ∈ shiftSet ∧ v = f.setWidth 32 := by
  have perm : [0x00000000#32, 0x00000002#32, 0x00000003#32, 0x00000004#32, 0x00000006#32, 0x00000007#32].Perm
      (shiftSet.map (BitVec.setWidth 32)) := by decide
  simp only [perm.mem_iff, List.mem_map, eq_comm]

/-- Settles O7: the outcome's condition by field and by mask, and the selector's row of the table. -/
theorem shiftOutcome : Obligations.ShiftOutcome := by
  unfold Obligations.ShiftOutcome
  refine ⟨fun w => ⟨classify_eq_iff w .shift, ?mask, fun h => dispatch_eq_desc h ▸ ⟨rfl, rfl, rfl, rfl⟩⟩,
    by decide, by decide, by decide, by decide⟩
  case mask =>
    rw [mem_shiftPatterns_iff, ← opOf_zero_and_funcOf_iff w (· ∈ shiftSet)]
    exact classify_eq_iff w .shift

/-! ## Outcome `R` (rule R73) -/

theorem not_mem_shiftSet_iff (f : BitVec 6) : f ∉ shiftSet ↔ f = 1#6 ∨ f = 5#6 ∨ 8 ≤ f.toNat := by
  rw [mem_shiftSet_iff, ne_eq, ne_eq, BitVec.toNat_eq, BitVec.toNat_eq, BitVec.toNat_ofNat, BitVec.toNat_ofNat]
  omega

/-- Settles O8: the outcome's condition by field, by value and by mask, and the selector's row of the table. -/
theorem rOutcome : Obligations.ROutcome := by
  unfold Obligations.ROutcome
  refine ⟨fun w => ⟨classify_eq_iff w .r, ?range, ?mask, fun h => dispatch_eq_desc h ▸ ⟨rfl, rfl, rfl, rfl⟩⟩,
    by decide, by decide, by decide, by decide, by decide⟩
  case range =>
    rw [← not_mem_shiftSet_iff]
    exact classify_eq_iff w .r
  case mask =>
    rw [← opOf_zero_and_funcOf_iff w (· ∉ shiftSet)]
    exact classify_eq_iff w .r

/-! ## Outcome `J` (rule R74) -/

/-- Settles O9: the outcome's condition by field and by mask, and the selector's row of the table. -/
theorem jOutcome : Obligations.JOutcome := by
  unfold Obligations.JOutcome
  refine ⟨fun w => ⟨classify_eq_iff w .j, ?mask, fun h => dispatch_eq_desc h ▸ ⟨rfl, rfl, rfl, rfl⟩⟩,
    fun target => ⟨?two, ?three⟩, by decide, by decide, by decide⟩
  case mask =>
    have two : w &&& 0xFC000000#32 = 0x08000000#32 ↔ opOf w = 2#6 := and_opMask_eq_shiftLeft_iff w 2#6
    have three : w &&& 0xFC000000#32 = 0x0C000000#32 ↔ opOf w = 3#6 := and_opMask_eq_shiftLeft_iff w 3#6
    rw [two, three]
    exact classify_eq_iff w .j
  case two => exact classify_eq_of_outcomeCondition (.inl (opOf_jLayout ..))
  case three => exact classify_eq_of_outcomeCondition (.inr (opOf_jLayout ..))

/-! ## Outcome `I` (rule R75) -/

theorem classify_eq_i_iff_toNat (w : Word) :
    classify w = .i ↔ (opOf w).toNat = 1 ∨ (4 ≤ (opOf w).toNat ∧ (opOf w).toNat ≤ 63) := by
  rw [← iOpcode_iff, mem_jSet_iff_eq, not_or]
  exact classify_eq_iff w .i

theorem classify_eq_i_iff_masked (w : Word) :
    classify w = .i ↔ ∃ op : BitVec 6, op ≠ 0#6 ∧ op ≠ 2#6 ∧ op ≠ 3#6 ∧
      w &&& 0xFC000000#32 = op.setWidth 32 <<< 26 := by
  simp only [and_opMask_eq_shiftLeft_iff]
  constructor
  · intro h
    obtain ⟨h0, h2, h3⟩ := (classify_eq_iff w .i).mp h
    exact ⟨opOf w, h0, h2, h3, rfl⟩
  · rintro ⟨op, h0, h2, h3, rfl⟩
    exact classify_eq_of_outcomeCondition ⟨h0, h2, h3⟩

/-- Settles O10: the outcome's condition by field, by value and by mask, and the selector's row of the table. -/
theorem iOutcome : Obligations.IOutcome := by
  unfold Obligations.IOutcome
  refine ⟨fun w => ⟨classify_eq_iff w .i, classify_eq_i_iff_toNat w, classify_eq_i_iff_masked w,
      fun h => dispatch_eq_desc h ▸ ⟨rfl, rfl, rfl, rfl⟩⟩,
    by decide, by decide, by decide, by decide, by decide, ?count⟩
  case count => decide -- the 61 opcodes among 64

/-! ## The kind of a word (rule R81) -/

/-- The kind of a word, by its opcode alone. -/
theorem kindOf_classify (w : Word) :
    kindOf (classify w) = if opOf w = 0#6 then .r else if opOf w = 2#6 ∨ opOf w = 3#6 then .j else .i := by
  obtain ⟨s, hs⟩ := exists_outcomeCondition w
  rw [classify_eq_of_outcomeCondition hs]
  cases s with
  | shift => rw [if_pos hs.1, kindOf]
  | r => rw [if_pos hs.1, kindOf]
  | j =>
    have hj : opOf w = 2#6 ∨ opOf w = 3#6 := hs
    have hzero : opOf w ≠ 0#6 := by rcases hj with hj | hj <;> rw [hj] <;> decide
    rw [if_neg hzero, if_pos hj, kindOf]
  | i => rw [if_neg hs.1, if_neg (not_or.mpr hs.2), kindOf]

theorem kindOf_classify_iff (w : Word) :
    (kindOf (classify w) = .r ↔ opOf w = 0#6) ∧
      (kindOf (classify w) = .j ↔ opOf w = 2#6 ∨ opOf w = 3#6) ∧
      (kindOf (classify w) = .i ↔ opOf w ≠ 0#6 ∧ opOf w ≠ 2#6 ∧ opOf w ≠ 3#6) := by
  rw [kindOf_classify]
  split_ifs with hzero hj
  · simp [hzero]
  · rcases hj with hj | hj <;> simp [hj]
  · simpa [hzero] using hj

/-- Settles O6: the table and the descriptors' kinds by selector, two selectors of one kind, and a word's kind by its
opcode. -/
theorem kindOfSelectorAndOfWord : Obligations.KindOfSelectorAndOfWord := by
  unfold Obligations.KindOfSelectorAndOfWord
  refine ⟨⟨rfl, rfl, rfl, rfl⟩, fun s => (desc_kind s).symm, fun hinj => ?_, kindOf_classify_iff, fun a b h => ?_⟩
  · have same_kind : kindOf .r = kindOf .shift := rfl
    exact absurd (hinj same_kind) (by decide)
  · rw [kindOf_classify, kindOf_classify, h]

/-! ## The gate-level form (rule R76) -/

theorem opOf_getElem (w : Word) (i : Nat) (hi : i < 6) : (opOf w)[i] = w[26 + i] := by
  rw [opOf, BitVec.getElem_extractLsb', BitVec.getLsbD_eq_getElem]

theorem funcOf_getElem (w : Word) (i : Nat) (hi : i < 6) : (funcOf w)[i] = w[i] := by
  simp [funcOf, BitVec.getLsbD_eq_getElem (show i < 32 by omega)]

/-- `is_rfam` says that the opcode is zero. -/
theorem gateRFamily_eq (w : Word) : gateRFamily w = decide (opOf w = 0#6) := by
  have bits : ∀ op : BitVec 6, (!(op[5] || op[4] || op[3] || op[2] || op[1] || op[0])) = decide (op = 0#6) := by decide
  rw [← bits]
  simp only [gateRFamily, opOf_getElem]

/-- `is_j` says that the opcode is 2 or 3. -/
theorem gateJ_eq (w : Word) : gateJ w = decide (opOf w = 2#6 ∨ opOf w = 3#6) := by
  have bits : ∀ op : BitVec 6, (!(op[5] || op[4] || op[3] || op[2]) && op[1]) = decide (op = 2#6 ∨ op = 3#6) := by
    decide
  rw [← bits]
  simp only [gateJ, opOf_getElem]

/-- `is_shf` says that the function code is in the set. -/
theorem gateShift_eq (w : Word) : gateShift w = decide (funcOf w ∈ shiftSet) := by
  have bits : ∀ f : BitVec 6, (!(f[5] || f[4] || f[3]) && !(!f[1] && f[0])) = decide (f ∈ shiftSet) := by decide
  rw [← bits]
  simp only [gateShift, gateLow8, funcOf_getElem]

theorem gateRFamily_and_gateShift_eq (w : Word) :
    (gateRFamily w && gateShift w) = decide (classify w = .shift) := by
  rw [gateRFamily_eq, gateShift_eq, ← Bool.decide_and]
  exact decide_eq_decide.mpr (classify_eq_iff w .shift).symm

theorem gateRFamily_and_not_gateShift_eq (w : Word) :
    (gateRFamily w && !gateShift w) = decide (classify w = .r) := by
  rw [gateRFamily_eq, gateShift_eq, ← decide_not, ← Bool.decide_and]
  exact decide_eq_decide.mpr (classify_eq_iff w .r).symm

theorem gateJ_eq_decide_classify (w : Word) : gateJ w = decide (classify w = .j) := by
  rw [gateJ_eq]
  exact decide_eq_decide.mpr (classify_eq_iff w .j).symm

theorem gateRFamily_eq_decide_kindOf (w : Word) : gateRFamily w = decide (kindOf (classify w) = .r) := by
  rw [gateRFamily_eq]
  exact decide_eq_decide.mpr (kindOf_classify_iff w).1.symm

/-- Settles O11: each gate says which selector, or which kind, the word has; the rest is selector by selector. -/
theorem gateLevelFormComputesClassify : Obligations.GateLevelFormComputesClassify := by
  unfold Obligations.GateLevelFormComputesClassify
  intro w
  rw [classifyGates, gateSel1, gateSel0, gateKind1, gateKind0, gateRFamily_and_gateShift_eq,
    gateRFamily_and_not_gateShift_eq, gateJ_eq_decide_classify, gateRFamily_eq_decide_kindOf]
  cases classify w <;> decide

/-! ## What the classifier does not read (rule R78) -/

/-- Under an opcode other than zero the function code does not matter. -/
theorem classify_eq_of_fields_eq {a b : Word} (hop : opOf a = opOf b) (h : opOf a ≠ 0#6 ∨ funcOf a = funcOf b) :
    classify a = classify b :=
  classify_congr hop h.neg_resolve_left

/-- Settles O13: words equal under a mask have equal fields in it; the words 0 and 1 differ in the function code. -/
theorem classifyIgnoresOtherBits : Obligations.ClassifyIgnoresOtherBits := by
  unfold Obligations.ClassifyIgnoresOtherBits
  refine ⟨fun a b => classify_eq_of_fields_eq, fun a b h => ?_, fun a b hop h => ?_,
    0x00000000#32, 0x00000001#32, by decide⟩
  · have op_eq : opOf a = opOf b := by rw [← opOf_and_funcMask a, h, opOf_and_funcMask]
    have func_eq : funcOf a = funcOf b := by rw [← funcOf_and_funcMask a, h, funcOf_and_funcMask]
    exact classify_eq_of_fields_eq op_eq (.inr func_eq)
  · have op_eq : opOf a = opOf b := by rw [← opOf_and_opMask a, h, opOf_and_opMask]
    exact classify_eq_of_fields_eq op_eq (.inl hop)

/-! ## How many words each outcome has (rule R77) -/

/-- The words whose opcode and function code lie in given sets, by their six fields. -/
def wordsWithFields (ops funcs : Finset (BitVec 6)) :
    { w : Word // opOf w ∈ ops ∧ funcOf w ∈ funcs } ≃
      (ops × funcs) × (BitVec 5 × BitVec 5 × BitVec 5 × BitVec 5) where
  toFun w := ((⟨opOf w, w.2.1⟩, ⟨funcOf w, w.2.2⟩), rsOf w, rtOf w, rdOf w, shamtOf w)
  invFun p := ⟨rLayout p.1.1 p.2.1 p.2.2.1 p.2.2.2.1 p.2.2.2.2 p.1.2, by simp⟩
  left_inv w := Subtype.ext (rLayout_fields w)
  right_inv p := by simp

theorem card_bitVec (n : Nat) : Nat.card (BitVec n) = 2 ^ n := by
  rw [Nat.card_congr BitVec.equivFin.toEquiv, Nat.card_fin]

theorem card_wordsWithFields (ops funcs : Finset (BitVec 6)) :
    Nat.card { w : Word // opOf w ∈ ops ∧ funcOf w ∈ funcs } = ops.card * funcs.card * 2 ^ 20 := by
  have between : Nat.card (BitVec 5 × BitVec 5 × BitVec 5 × BitVec 5) = 2 ^ 20 := by
    simp only [Nat.card_prod, card_bitVec]
    decide
  rw [Nat.card_congr (wordsWithFields ops funcs), Nat.card_prod, Nat.card_prod, between, Nat.card_eq_finsetCard,
    Nat.card_eq_finsetCard]

/-- The opcodes that admit an outcome. -/
def opcodesOf : Sel → Finset (BitVec 6)
  | .shift => {0#6}
  | .r => {0#6}
  | .j => {2#6, 3#6}
  | .i => {0#6, 2#6, 3#6}ᶜ

/-- The function codes that admit an outcome. -/
def functionCodesOf : Sel → Finset (BitVec 6)
  | .shift => shiftSet.toFinset
  | .r => shiftSet.toFinsetᶜ
  | .j => Finset.univ
  | .i => Finset.univ

theorem classify_eq_iff_mem (w : Word) (s : Sel) :
    classify w = s ↔ opOf w ∈ opcodesOf s ∧ funcOf w ∈ functionCodesOf s := by
  rw [classify_eq_iff]
  cases s <;> simp [outcomeCondition, opcodesOf, functionCodesOf]

theorem card_classify_eq (s : Sel) :
    Nat.card { w : Word // classify w = s } = (opcodesOf s).card * (functionCodesOf s).card * 2 ^ 20 := by
  simp only [classify_eq_iff_mem, card_wordsWithFields]

/-- Settles O12: the classifier's answer is the one outcome whose condition holds, and each class is counted by its
opcodes, its function codes and the 20 bits between. -/
theorem outcomesPartitionAllWords : Obligations.OutcomesPartitionAllWords := by
  unfold Obligations.OutcomesPartitionAllWords
  refine ⟨fun w => ⟨classify w, ⟨rfl, ?holds⟩, fun s hs => hs.1.symm⟩, fun w s hs => ?answers, ?_, ?_, ?_, ?_⟩
  case holds => exact (classify_eq_iff w _).mp rfl
  case answers => exact classify_eq_of_outcomeCondition hs
  · rw [card_classify_eq]; decide -- one opcode, six function codes
  · rw [card_classify_eq]; decide -- one opcode, 58 function codes
  · rw [card_classify_eq]; decide -- two opcodes, 64 function codes
  · rw [card_classify_eq]; decide -- 61 opcodes, 64 function codes

end Sys2Proof.Machine
end

section
/-! PROOFS. The dispatch mux and what a consumer extracts from its descriptor (41_dispatch.md): the mux (rule R91), the
codes of its outputs (rule R92), the keys of the mnemonic table (rule R93), and `FIELDS` and `OPERANDS` (rules R95 to
R97). -/

namespace Sys2Proof.Machine

/-! ## The mux (rule R91) -/

/-- The four constants are pairwise different (rule R21). -/
theorem desc_injective : Function.Injective desc := by
  intro s t h
  revert h
  cases s <;> cases t <;> decide

theorem dispatch_eq_iff (a b : Word) : dispatch a = dispatch b ↔ classify a = classify b :=
  desc_injective.eq_iff

theorem dispatch_mem_constants (w : Word) : dispatch w ∈ [descR, descShift, descI, descJ] :=
  (exists_desc_eq_iff _).mp ⟨classify w, rfl⟩

/-- Settles O15: the table is injective, so the mux separates exactly the selectors; the words 0 and 0x20 have one kind
and two descriptors. -/
theorem dispatchIsTheMux : Obligations.DispatchIsTheMux := by
  unfold Obligations.DispatchIsTheMux
  exact ⟨fun w => ⟨rfl, dispatch_mem_constants w⟩, dispatch_eq_iff, ⟨0x00000000#32, 0x00000020#32, by decide⟩,
    by decide, by decide⟩

/-! ## `FIELDS` and its concatenation (rule R95) -/

theorem concatValue_rLayout (w : Word) :
    concatValue ([.op, .rs, .rt, .rd, .shamt, .func].map (fieldValue w)) = w.toNat := by
  conv_rhs => rw [← rLayout_fields w, rLayout_toNat]
  simp [concatValue, fieldValue, field, FieldName.width]

theorem concatValue_iLayout (w : Word) :
    concatValue ([.op, .rs, .rt, .immediate].map (fieldValue w)) = w.toNat := by
  conv_rhs => rw [← iLayout_fields w, iLayout_toNat]
  simp [concatValue, fieldValue, field, FieldName.width]

theorem concatValue_jLayout (w : Word) : concatValue ([.op, .target].map (fieldValue w)) = w.toNat := by
  conv_rhs => rw [← jLayout_fields w, jLayout_toNat]
  simp [concatValue, fieldValue, field, FieldName.width]

/-- Each descriptor's fields are those of a layout, so any word is the concatenation of them. -/
theorem concatValue_desc_fields (w : Word) (s : Sel) :
    concatValue ((desc s).fields.map fun f => fieldValue w f.1) = w.toNat := by
  cases s with
  | r => exact concatValue_rLayout w
  | shift => exact concatValue_rLayout w
  | i => exact concatValue_iLayout w
  | j => exact concatValue_jLayout w

/-- Settles O24: the concatenation selector by selector, each through its layout; the layouts rebuild the word. -/
theorem fieldsConcatenateToTheWord : Obligations.FieldsConcatenateToTheWord := by
  unfold Obligations.FieldsConcatenateToTheWord
  refine ⟨fun _ => rfl, fun w => concatValue_desc_fields w (classify w), fun w => ⟨?_, ?_, ?_⟩, by decide⟩
  · exact congrArg BitVec.toNat (rLayout_fields w)
  · exact congrArg BitVec.toNat (iLayout_fields w)
  · exact congrArg BitVec.toNat (jLayout_fields w)

/-! ## `OPERANDS` (rule R96) -/

theorem fields_names (w : Word) : (fields w).map FieldValue.name = (dispatch w).fields.map Prod.fst := by
  rw [fields, List.map_map]
  rfl

theorem operands_names (w : Word) : (operands w).map FieldValue.name = (dispatch w).operandOrder := by
  rw [operands, List.map_map]
  exact List.map_id _

theorem operands_length (w : Word) : (operands w).length = (dispatch w).operandOrder.length :=
  List.length_map _

theorem desc_operandOrder_length (s : Sel) : (desc s).operandOrder.length = if s = .j then 2 else 4 := by
  cases s <;> rfl

/-- The first operand is the field that stands for the mnemonic: the function code or the opcode. -/
theorem operands_head? (w : Word) :
    (operands w).head? = some
      (if classify w = .r ∨ classify w = .shift then ⟨.func, funcOf w⟩ else ⟨.op, opOf w⟩) := by
  rw [operands, dispatch]
  cases classify w <;> rfl

/-- A name outside the selector's operand order is the name of no operand. -/
theorem operand_name_ne {w : Word} {s : Sel} {n : FieldName} (h : classify w = s) (hn : n ∉ (desc s).operandOrder) :
    ∀ v ∈ operands w, v.name ≠ n := by
  rintro v hv rfl
  rw [← dispatch_eq_desc h, ← operands_names] at hn
  exact hn (List.mem_map_of_mem hv)

/-- Settles O25: the operand order of each selector, and the rule's examples by computation. -/
theorem operandsOfAWord : Obligations.OperandsOfAWord := by
  unfold Obligations.OperandsOfAWord
  refine ⟨fun _ => rfl, fun w => ?length, operands_head?, fun w h => operand_name_ne h (by decide),
    fun w h => operand_name_ne h (by decide), by decide, by decide, by decide, by decide⟩
  case length => rw [operands_length, dispatch, desc_operandOrder_length]

/-! ## What a consumer may rely on (rule R97) -/

/-- Settles O26: the names are the descriptor's, and the descriptor follows the selector. -/
theorem decompositionFollowsSelector : Obligations.DecompositionFollowsSelector := by
  unfold Obligations.DecompositionFollowsSelector
  intro a b h
  have same_desc : dispatch a = dispatch b := (dispatch_eq_iff a b).mpr h
  rw [fields_names, fields_names, operands_names, operands_names, operands_length, operands_length, same_desc]
  exact ⟨rfl, rfl, rfl⟩

/-! ## The codes of the outputs (rule R92) -/

theorem kindCode_ne_three (k : Kind) : kindCode k ≠ 0b11#2 := by
  cases k <;> decide

/-- Settles O5: the two tables, and no kind whatever has the code 3. -/
theorem outputCodes : Obligations.OutputCodes :=
  ⟨rfl, rfl, rfl, rfl, rfl, rfl, rfl, fun w => kindCode_ne_three (portsOf w).kind⟩

/-! ## The keys of the mnemonic table (rule R93) -/

theorem isRFamily_iff (w : Word) : isRFamily w = true ↔ opOf w = 0#6 :=
  beq_iff_eq

/-- The optional function code is present exactly under opcode zero. -/
theorem functionKey_portsOf (w : Word) :
    (portsOf w).functionKey = if opOf w = 0#6 then some (funcOf w) else none := by
  simp only [Outputs.functionKey, portsOf, portsWith_funcValid, portsWith_func, isRFamily_iff]

/-- The table is asked with the keys and with nothing else of the word. -/
theorem resolveMnemonic_portsOf {M : Type} (table : BitVec 6 → Option (BitVec 6) → M) (w : Word) :
    resolveMnemonic table (portsOf w) = table (opOf w) (if opOf w = 0#6 then some (funcOf w) else none) := by
  rw [resolveMnemonic, functionKey_portsOf, portsOf, portsWith_opcode]

/-- Settles O27: the ports as wired, and the table's answer as a function of the keys. -/
theorem mnemonicKeys : Obligations.MnemonicKeys := by
  unfold Obligations.MnemonicKeys
  refine ⟨fun w => ⟨rfl, rfl, isRFamily_iff w, functionKey_portsOf w⟩, fun M table a b hop hfunc => ?_⟩
  have same_key : (if opOf a = 0#6 then some (funcOf a) else none) = if opOf a = 0#6 then some (funcOf b) else none :=
    ite_congr rfl (fun h => congrArg some (hfunc h)) fun _ => rfl
  rw [resolveMnemonic_portsOf, resolveMnemonic_portsOf, same_key, hop]

end Sys2Proof.Machine
end

section
/-! PROOFS. The host adapters (42_host_adapters.md): a word as text (rules R100 to R103), a word as an integer (rule
R105), and register references (rules R106 to R108). -/

namespace Sys2Proof.Machine

/-! ## The word a string denotes (rules R100 to R102) -/

theorem formatWord_length (w : Word) : (formatWord w).length = 32 := by
  rw [formatWord, List.length_map, List.length_range]

theorem formatWord_bits (w : Word) : ∀ c ∈ formatWord w, c = '0' ∨ c = '1' := by
  intro c hc
  obtain ⟨i, -, rfl⟩ := List.mem_map.mp hc
  exact (ite_eq_or_eq _ '1' '0').symm

theorem numeral_formatWord (w : Word) : numeral (formatWord w) = w.toNat := by
  have whole : substring (formatWord w) 0 32 = formatWord w := List.take_of_length_le (formatWord_length w).le
  have := numeral_substring_formatWord w (a := 0) (k := 32) (low := 0) rfl
  rwa [Nat.zero_add, whole, pow_zero, Nat.div_one, Nat.mod_eq_of_lt w.isLt] at this

/-- The digits 0 and 1 are the characters' values. -/
theorem bitChar_eq_of_value_eq {c d : Char} (hc : c = '0' ∨ c = '1') (hd : d = '0' ∨ d = '1')
    (h : (if c = '1' then 1 else 0) = if d = '1' then 1 else 0) : c = d := by
  rcases hc with rfl | rfl <;> rcases hd with rfl | rfl
  all_goals revert h; decide

/-- Strings of bits of one length have different numerals: the last digit is the parity, the others the half. -/
theorem numeral_inj {t u : Text} (hlen : t.length = u.length) (ht : ∀ c ∈ t, c = '0' ∨ c = '1')
    (hu : ∀ c ∈ u, c = '0' ∨ c = '1') (h : numeral t = numeral u) : t = u := by
  induction t using List.reverseRecOn generalizing u with
  | nil => exact (List.length_eq_zero_iff.mp hlen.symm).symm
  | append_singleton t c ih =>
    obtain rfl | ⟨u, d, rfl⟩ := u.eq_nil_or_concat'
    · simp at hlen
    · simp only [List.forall_mem_append, List.forall_mem_singleton] at ht hu
      obtain ⟨t_bits, c_bit⟩ := ht
      obtain ⟨u_bits, d_bit⟩ := hu
      rw [numeral_concat, numeral_concat] at h
      have init : t = u := ih (by simpa using hlen) t_bits u_bits (by split at h <;> split at h <;> omega)
      subst init
      rw [bitChar_eq_of_value_eq c_bit d_bit (Nat.add_left_cancel h)]

theorem parseWord_formatWord (w : Word) : parseWord (formatWord w) = .ok w :=
  (parseWord_eq_ok_iff_numeral (formatWord_length w) (formatWord_bits w) w).mpr (numeral_formatWord w)

/-- The one string that denotes a word is its text. -/
theorem parseWord_eq_ok_iff (t : Text) (w : Word) : parseWord t = .ok w ↔ t = formatWord w := by
  constructor
  · intro h
    obtain ⟨hlen, hbits, -⟩ := parseWord_eq_ok h
    have value : numeral t = w.toNat := (parseWord_eq_ok_iff_numeral hlen hbits w).mp h
    exact numeral_inj (hlen.trans (formatWord_length w).symm) hbits (formatWord_bits w)
      (value.trans (numeral_formatWord w).symm)
  · rintro rfl
    exact parseWord_formatWord w

/-- Of a string of the right length, the leftmost bad character is raised (rules R100, R123). -/
theorem parseWord_of_leftmost_bad {t : Text} {i : Nat} (hi : i < t.length) (hlen : t.length = 32)
    (bad : ¬(t[i] = '0' ∨ t[i] = '1')) (good : ∀ (j : Nat) (hj : j < i), t[j] = '0' ∨ t[j] = '1') :
    parseWord t = .error (.invalidBitCharacter t i) := by
  have first_bad : t.findIdx? (fun c => !isBitChar c) = some i := by
    rw [List.findIdx?_eq_some_iff_getElem]
    refine ⟨hi, ?_, fun j hj => ?_⟩
    · rwa [Bool.not_eq_true', ← Bool.not_eq_true, isBitChar_iff]
    · rw [(isBitChar_iff _).mpr (good j hj)]
      decide
  rw [parseWord, if_pos hlen, first_bad]

/-- Settles O47: by the length, then by the leftmost bad character; a string of 32 bits is its word's text. -/
theorem parseWordOutcomes : Obligations.ParseWordOutcomes := by
  unfold Obligations.ParseWordOutcomes
  refine ⟨fun t => parseWord_of_length, fun t i hi hlen h0 h1 good => ?_, fun t hlen hbits => ?_, by decide⟩
  · exact parseWord_of_leftmost_bad hi hlen (not_or.mpr ⟨h0, h1⟩) good
  · have accepted := parseWord_of_bits hlen hbits
    refine ⟨_, accepted, fun i hi => ?_⟩
    rw [← formatWord_getElem?_eq_one_iff _ hi, ← (parseWord_eq_ok_iff t _).mp accepted]

/-- A word's value by the characters of its text: character `i` weighs what bit `31 - i` does. -/
theorem toNat_eq_sum_characters (w : Word) :
    w.toNat = ∑ i ∈ Finset.range 32, (if (formatWord w)[i]? = some '1' then 1 else 0) * 2 ^ (31 - i) := by
  rw [toNat_eq_sum_bits, ← Finset.sum_range_reflect]
  refine Finset.sum_congr rfl fun i hi => ?_
  simp only [formatWord_getElem?_eq_one_iff w (Finset.mem_range.mp hi), Nat.reduceSub]

/-- Settles O48: an accepted string is its word's text, so the word's value is read off the text. -/
theorem parseWordValueLaw : Obligations.ParseWordValueLaw := by
  unfold Obligations.ParseWordValueLaw
  refine ⟨fun t w h => ?_, fun t t' w h h' => ?_, fun w => ⟨formatWord w, parseWord_formatWord w⟩⟩
  · rw [(parseWord_eq_ok_iff t w).mp h]
    exact toNat_eq_sum_characters w
  · exact ((parseWord_eq_ok_iff t w).mp h).trans ((parseWord_eq_ok_iff t' w).mp h').symm

/-- Settles O49: character by character, and both inverse laws from the one string that denotes a word. -/
theorem formatWordInvertsParseWord : Obligations.FormatWordInvertsParseWord :=
  ⟨fun w => ⟨formatWord_length w, fun _ => formatWord_getElem? w⟩, parseWord_formatWord,
    fun t w h => ((parseWord_eq_ok_iff t w).mp h).symm⟩

/-! ## Classification of text (rule R103) -/

/-- A field's slice of a word's text is one of some strings of bits when the field is one of their values. -/
theorem substring_formatWord_mem_iff (w : Word) {name : FieldName} {a b : Nat} (hb : b = a + name.width)
    (hlow : b + lowBit name = 32) {strings : List Text} {values : List (BitVec name.width)}
    (hbits : ∀ s ∈ strings, s.length = name.width ∧ ∀ c ∈ s, c = '0' ∨ c = '1')
    (hvalues : strings.map numeral = values.map BitVec.toNat) :
    substring (formatWord w) a b ∈ strings ↔ field w name ∈ values := by
  have slice_length : (substring (formatWord w) a b).length = name.width := by
    rw [substring, List.length_take, List.length_drop, formatWord_length]
    omega
  have slice_bits : ∀ c ∈ substring (formatWord w) a b, c = '0' ∨ c = '1' := fun c hc =>
    formatWord_bits w c (List.mem_of_mem_drop (List.mem_of_mem_take hc))
  have slice_value := numeral_substring_field w hb hlow
  calc substring (formatWord w) a b ∈ strings
      ↔ (field w name).toNat ∈ strings.map numeral := by
        rw [List.mem_map, ← slice_value]
        refine ⟨fun h => ⟨_, h, rfl⟩, fun ⟨s, hs, same_value⟩ => ?_⟩
        obtain ⟨s_length, s_bits⟩ := hbits s hs
        rwa [← numeral_inj (s_length.trans slice_length.symm) s_bits slice_bits same_value]
    _ ↔ field w name ∈ values := by
        rw [hvalues, List.mem_map_of_injective BitVec.toNat_injective]

theorem opcodeSlice_eq_zeros_iff (w : Word) :
    substring (formatWord w) 0 6 = "000000".toList ↔ opOf w = rFamilyOpcode := by
  rw [← List.mem_singleton, ← List.mem_singleton (a := opOf w)]
  exact substring_formatWord_mem_iff w (name := .op) rfl rfl (by simp [FieldName.width]) (by decide)

theorem opcodeSlice_mem_iff (w : Word) :
    substring (formatWord w) 0 6 ∈ ["000010", "000011"].map String.toList ↔ opOf w ∈ jSet :=
  substring_formatWord_mem_iff w (name := .op) rfl rfl (by simp [FieldName.width]) (by decide)

theorem functionCodeSlice_mem_iff (w : Word) :
    substring (formatWord w) 26 32 ∈
        ["000000", "000100", "000011", "000111", "000010", "000110"].map String.toList ↔
      funcOf w ∈ shiftSet :=
  substring_formatWord_mem_iff w (name := .func) rfl rfl (by simp [FieldName.width]) (by decide)

/-- The source's string slices take the branches of `CLASSIFY` (rule R70). -/
theorem classifySlices_formatWord (w : Word) : classifySlices (formatWord w) = dispatch w := by
  simp only [classifySlices, opcodeSlice_eq_zeros_iff, opcodeSlice_mem_iff, functionCodeSlice_mem_iff, dispatch,
    classify, apply_ite desc]
  rfl

theorem classifyText_of_ok {t : Text} {w : Word} (h : parseWord t = .ok w) : classifyText t = .ok (dispatch w) := by
  rw [classifyText, h]

theorem classifyText_of_error {t : Text} {e : ErrorCondition} (h : parseWord t = .error e) :
    classifyText t = .error e := by
  rw [classifyText, h]

/-- Settles O51: by `PARSEWORD`'s answer; the slices of an accepted string are those of its word's text. -/
theorem classifyTextOutcomes : Obligations.ClassifyTextOutcomes := by
  unfold Obligations.ClassifyTextOutcomes
  refine ⟨fun t e => classifyText_of_error, fun t w => classifyText_of_ok, fun t w h => ?_, by decide⟩
  rw [classifyText_of_ok h, (parseWord_eq_ok_iff t w).mp h, classifySlices_formatWord]

/-! ## The integer form of a word (rule R105) -/

theorem wordOfNat_toNat (w : Word) : wordOfNat w.toNat = .ok w := by
  rw [wordOfNat_of_fits (Int.natCast_nonneg _) (by exact_mod_cast w.isLt), Int.toNat_natCast, BitVec.ofNat_toNat,
    BitVec.setWidth_eq]

/-- Settles O52: the two ranges of the rule, then its corner cases by computation. -/
theorem wordOfNatOutcomes : Obligations.WordOfNatOutcomes := by
  unfold Obligations.WordOfNatOutcomes
  refine ⟨fun n => wordOfNat_of_not, fun n h0 h1 => ⟨_, wordOfNat_of_fits h0 h1, ?_⟩, wordOfNat_toNat, by decide⟩
  rw [BitVec.toNat_ofNat]
  omega

/-! ## Register references (rules R106 to R108) -/

/-- Every code but the reserved ones renders as the sigil and its name (rule R106). -/
theorem exists_name_and_render (names : Config.RegNameTable) {c : Int} (h0 : 0 ≤ c) (h1 : c ≤ 31) (h26 : c ≠ 26)
    (h27 : c ≠ 27) : ∃ n, names.name c.toNat = some n ∧ render names c = .ok ('$' :: n) := by
  obtain ⟨-, -, -, named, -⟩ := Config.registerNamesConstrained names
  obtain ⟨n, hn, -⟩ := named c.toNat (by omega) (by omega) (by omega)
  exact ⟨n, hn, render_of_name h0 h1 hn⟩

/-- Settles O53: outside the codes, at the two reserved codes, and at the named ones. -/
theorem renderOutcomes : Obligations.RenderOutcomes := by
  unfold Obligations.RenderOutcomes
  intro names
  obtain ⟨name29, none26, none27, -, -⟩ := Config.registerNamesConstrained names
  refine ⟨?_, fun c => exists_name_and_render names, render_of_name (by decide) (by decide) name29⟩
  rintro c (below | above | rfl | rfl)
  · exact render_of_outside (.inl below)
  · exact render_of_outside (.inr above)
  · exact render_of_no_name none26
  · exact render_of_no_name none27

theorem render_eq_ok_iff (names : Config.RegNameTable) (c : Fin 32) (t : Text) :
    render names (c.val : Int) = .ok t ↔ ∃ n, names.name c.val = some n ∧ t = '$' :: n := by
  cases h : names.name c.val with
  | none => simp [render_of_no_name (c := c.val) h]
  | some n => simp [render_of_name (c := c.val) (by omega) (by omega) h, eq_comm]

/-- Names are pairwise distinct (rule R9), so no two codes render alike. -/
theorem render_inj {names : Config.RegNameTable} {c d : Fin 32} {t : Text} (hc : render names (c.val : Int) = .ok t)
    (hd : render names (d.val : Int) = .ok t) : c = d := by
  obtain ⟨-, -, -, -, distinct⟩ := Config.registerNamesConstrained names
  obtain ⟨n, hn, rfl⟩ := (render_eq_ok_iff names c t).mp hc
  obtain ⟨m, hm, same_text⟩ := (render_eq_ok_iff names d _).mp hd
  obtain rfl : n = m := List.tail_eq_of_cons_eq same_text
  exact Fin.ext (distinct c d n hn hm)

/-- `PARSEREG` looks for the code that `RENDER` gives the string for. -/
theorem parseReg_eq_find? (names : Config.RegNameTable) (t : Text) :
    parseReg names t = (List.finRange 32).find? fun c => decide (render names (c.val : Int) = .ok t) := by
  rw [parseReg]
  congr 1
  funext c
  rw [Bool.eq_iff_iff, decide_eq_true_iff, render_eq_ok_iff]
  cases names.name c.val <;> simp

theorem render_of_parseReg {names : Config.RegNameTable} {t : Text} {c : Fin 32} (h : parseReg names t = some c) :
    render names (c.val : Int) = .ok t := by
  rw [parseReg_eq_find?] at h
  simpa using List.find?_some h

theorem parseReg_eq_some_iff (names : Config.RegNameTable) (t : Text) (c : Fin 32) :
    parseReg names t = some c ↔ render names (c.val : Int) = .ok t := by
  refine ⟨render_of_parseReg, fun hc => ?_⟩
  have found : (parseReg names t).isSome := by
    rw [parseReg_eq_find?, List.find?_isSome]
    exact ⟨c, List.mem_finRange c, decide_eq_true hc⟩
  obtain ⟨d, hd⟩ := Option.isSome_iff_exists.mp found
  rw [hd, render_inj hc (render_of_parseReg hd)]

/-- Settles O54: the code found is the one that renders as the string, and each named code renders. -/
theorem registerNameRoundTrip : Obligations.RegisterNameRoundTrip := by
  unfold Obligations.RegisterNameRoundTrip
  intro names
  refine ⟨parseReg_eq_some_iff names, fun t unrendered => ?_, fun c h26 h27 => ?_⟩
  · exact Option.eq_none_iff_forall_ne_some.mpr fun c found => unrendered c ((parseReg_eq_some_iff names t c).mp found)
  · obtain ⟨n, -, rendered⟩ := exists_name_and_render names (c := c.val) (by omega) (by omega) (by omega) (by omega)
    exact ⟨_, rendered, (parseReg_eq_some_iff names _ c).mpr rendered⟩

end Sys2Proof.Machine
end

section
/-! PROOFS. The error conditions (60_exceptions.md): for each function of the host adapters exactly when it raises and
with what payload, and how a call passes that on (rules R120, R124). -/

namespace Sys2Proof.Machine

/-! ## When an adapter raises (rules R100, R105, R106) -/

/-- The search of `PARSEWORD` answers the least index of a bad character. -/
theorem findIdx?_bad_eq_some_iff (t : Text) (i : Nat) :
    t.findIdx? (fun c => !isBitChar c) = some i ↔
      (∃ x, t[i]? = some x ∧ x ≠ '0' ∧ x ≠ '1') ∧ ∀ j, j < i → t[j]? = some '0' ∨ t[j]? = some '1' := by
  rw [List.findIdx?_eq_some_iff_getElem]
  constructor
  · rintro ⟨hi, bad, good⟩
    refine ⟨⟨t[i], List.getElem?_eq_getElem hi, by simpa [isBitChar] using bad⟩, fun j hj => ?_⟩
    rw [List.getElem?_eq_getElem (hj.trans hi), Option.some_inj, Option.some_inj]
    simpa [isBitChar_iff] using good j hj
  · rintro ⟨⟨x, hx, bad⟩, good⟩
    obtain ⟨hi, rfl⟩ := List.getElem?_eq_some_iff.mp hx
    refine ⟨hi, by simpa [isBitChar] using bad, fun j hj => ?_⟩
    have bit := good j hj
    rw [List.getElem?_eq_getElem (hj.trans hi), Option.some_inj, Option.some_inj] at bit
    simpa [isBitChar_iff] using bit

theorem parseWord_eq_error_iff (t : Text) (e : ErrorCondition) :
    parseWord t = .error e ↔
      (t.length ≠ 32 ∧ e = .invalidEncodingLength (.text t)) ∨
      ∃ i, t.length = 32 ∧ (∃ x, t[i]? = some x ∧ x ≠ '0' ∧ x ≠ '1') ∧
        (∀ j, j < i → t[j]? = some '0' ∨ t[j]? = some '1') ∧ e = .invalidBitCharacter t i := by
  by_cases hlen : t.length = 32
  · have search : parseWord t = .error e ↔
        ∃ i, t.findIdx? (fun c => !isBitChar c) = some i ∧ e = .invalidBitCharacter t i := by
      rw [parseWord, if_pos hlen]
      cases t.findIdx? fun c => !isBitChar c <;> simp [eq_comm]
    simp only [search, findIdx?_bad_eq_some_iff, hlen, ne_eq, not_true_eq_false, false_and, false_or, true_and,
      and_assoc]
  · simp [parseWord_of_length hlen, hlen, eq_comm]

theorem wordOfNat_eq_error_iff (n : Int) (e : ErrorCondition) :
    wordOfNat n = .error e ↔ (n < 0 ∨ n ≥ 2 ^ 32) ∧ e = .invalidEncodingLength (.integer n) := by
  by_cases outside : n < 0 ∨ n ≥ 2 ^ 32
  · rw [wordOfNat_of_not outside, Except.error.injEq, eq_comm, and_iff_right outside]
  · simp only [wordOfNat_of_fits (n := n) (by omega) (by omega), outside, reduceCtorEq, false_and]

/-- Under every admissible name table, since only the reserved codes have no name (rules R106, R107). -/
theorem render_eq_error_iff (names : Config.RegNameTable) (n : Int) (e : ErrorCondition) :
    render names n = .error e ↔ (n < 0 ∨ n > 31 ∨ n = 26 ∨ n = 27) ∧ e = .unknownRegisterCode n := by
  obtain ⟨raises, renders, -⟩ := renderOutcomes names
  by_cases unknown : n < 0 ∨ n > 31 ∨ n = 26 ∨ n = 27
  · rw [raises n unknown, Except.error.injEq, eq_comm, and_iff_right unknown]
  · obtain ⟨name, -, rendered⟩ := renders n (by omega) (by omega) (by omega) (by omega)
    simp [rendered, unknown]

/-! ## When a call raises (rule R120) -/

/-- A word that goes on to the block raises nothing there (rule R121): only its adapter can have raised. -/
theorem resultOf_raised_iff_of_evaluateIfValid {c : Call} {answer : Except ErrorCondition Word}
    (h : serve c = evaluateIfValid answer) (e : ErrorCondition) : resultOf c = .raised e ↔ answer = .error e := by
  cases answer <;> simp [resultOf, h, evaluateIfValid]

theorem resultOf_raised_iff_of_answerWith {α : Type} {c : Call} {result : α → Result}
    {answer : Except ErrorCondition α} (h : serve c = answerWith result answer) (e : ErrorCondition)
    (not_raised : ∀ a, result a ≠ .raised e) : resultOf c = .raised e ↔ answer = .error e := by
  cases answer <;> simp [resultOf, h, answerWith, not_raised]

/-- Settles O56: call by call; those over an adapter raise what it raises, the others are answered or evaluated. -/
theorem callsThatRaise : Obligations.CallsThatRaise := by
  unfold Obligations.CallsThatRaise
  refine ⟨fun c e => ?_, fun _ => rfl, fun _ _ => rfl, fun _ => rfl⟩
  cases c with
  | classifyText t => simp [resultOf_raised_iff_of_evaluateIfValid (c := .classifyText t) rfl, parseWord_eq_error_iff]
  | parseWord t => simp [resultOf_raised_iff_of_answerWith (c := .parseWord t) rfl, parseWord_eq_error_iff]
  | classifyInteger n =>
    simp [resultOf_raised_iff_of_evaluateIfValid (c := .classifyInteger n) rfl, wordOfNat_eq_error_iff]
  | wordOfNat n => simp [resultOf_raised_iff_of_answerWith (c := .wordOfNat n) rfl, wordOfNat_eq_error_iff]
  | render n => simp [resultOf_raised_iff_of_answerWith (c := .render n) rfl, render_eq_error_iff]
  | present | presentBytes | formatWord | parseReg | field | fields | operands => simp [resultOf, serve]

end Sys2Proof.Machine
end

section
/-! PROOFS. The decoder, the encoder and the opcode table (30_encoding.md sections 1 to 4): an instruction is read back
from its word (rules R51, R59), every word is the word of the instruction it decodes to (rule R60), and the table's rows
partition the words (rule R59). Then words built from bytes (rule R43), and the false variants of the classifier. -/

namespace Sys2Proof.Machine

/-! ## Decoding what was encoded (rules R51, R59) -/

/-- An instruction is the row that its word's codes look up, with the fields in their places. -/
theorem decode_encode (i : Instr) : decode (encode i) = i := by
  cases i
  iterate 64 exact decode_rLayout _ _ _ _ _ rfl -- a function code's row
  iterate 2 exact decode_jLayout _ _ rfl
  iterate 61 exact decode_iLayout _ _ _ _ rfl

/-- Settles O18: layout by layout, the row that an instruction's codes look up is its own. -/
theorem decodeOfEncode : Obligations.DecodeOfEncode :=
  fun i _ => decode_encode i

/-! ## Encoding what was decoded (rules R58, R60) -/

/-- Each function code has a row under opcode zero, whose instructions have words with that function code and one
name. -/
theorem exists_funcRow (func : BitVec 6) : ∃ row name, funcRows[func.toNat]? = some (ofRLayout row) ∧
    ∀ rs rt rd shamt, encode (row rs rt rd shamt) = rLayout 0#6 rs rt rd shamt func ∧
      (row rs rt rd shamt).mnemonic = name := by
  obtain ⟨code, hcode, rfl⟩ : ∃ code < 64, func = BitVec.ofNat 6 code := ⟨func.toNat, func.isLt, by simp⟩
  interval_cases code
  all_goals exact ⟨_, _, rfl, fun _ _ _ _ => ⟨rfl, rfl⟩⟩

/-- Each jump opcode has a row, whose instructions have words of the J layout with that opcode and one name. -/
theorem exists_jRow {op : BitVec 6} (hj : op = 2#6 ∨ op = 3#6) : ∃ row name,
    opRows[op.toNat]? = some (ofJLayout row) ∧
    ∀ target, encode (row target) = jLayout op target ∧ (row target).mnemonic = name := by
  rcases hj with rfl | rfl
  all_goals exact ⟨_, _, rfl, fun _ => ⟨rfl, rfl⟩⟩

/-- Each other opcode has a row, whose instructions have words of the I layout with that opcode and one name. -/
theorem exists_iRow {op : BitVec 6} (hop : op ≠ 0#6) (hj : ¬(op = 2#6 ∨ op = 3#6)) : ∃ row name,
    opRows[op.toNat]? = some (ofILayout row) ∧
    ∀ rs rt immediate, encode (row rs rt immediate) = iLayout op rs rt immediate ∧
      (row rs rt immediate).mnemonic = name := by
  have code_of_i := (iOpcode_iff op).mp ⟨hop, by rwa [mem_jSet_iff_eq]⟩
  obtain ⟨code, hcode, rfl⟩ : ∃ code < 64, op = BitVec.ofNat 6 code := ⟨op.toNat, op.isLt, by simp⟩
  rw [BitVec.toNat_ofNat, Nat.mod_eq_of_lt hcode] at code_of_i
  rcases code_of_i with rfl | ⟨hlow, -⟩
  · exact ⟨_, _, rfl, fun _ _ _ => ⟨rfl, rfl⟩⟩
  · interval_cases code
    all_goals exact ⟨_, _, rfl, fun _ _ _ => ⟨rfl, rfl⟩⟩

/-- The opcode, and under opcode zero the function code, decide a word's row: its name is the row's, and the word is
rebuilt from the row's codes and its own fields. -/
theorem exists_name_of_codes (op func : BitVec 6) : ∃ name, ∀ w, opOf w = op → (opOf w = 0#6 → funcOf w = func) →
    encode (decode w) = w ∧ (decode w).mnemonic = name := by
  by_cases hop : op = 0#6
  · obtain ⟨row, name, hrow, hword⟩ := exists_funcRow func
    refine ⟨name, fun w hw hfunc => ?_⟩
    have op_zero : opOf w = 0#6 := hw.trans hop
    have func_eq : funcOf w = func := hfunc op_zero
    rw [decode_of_funcRow op_zero (func_eq ▸ hrow), ofRLayout, (hword ..).1, (hword ..).2, ← func_eq, ← op_zero]
    exact ⟨rLayout_fields w, rfl⟩
  · by_cases hj : op = 2#6 ∨ op = 3#6
    · obtain ⟨row, name, hrow, hword⟩ := exists_jRow hj
      refine ⟨name, fun w hw _ => ?_⟩
      rw [decode_of_opRow (hw ▸ hrow), ofJLayout, (hword _).1, (hword _).2, ← hw]
      exact ⟨jLayout_fields w, rfl⟩
    · obtain ⟨row, name, hrow, hword⟩ := exists_iRow hop hj
      refine ⟨name, fun w hw _ => ?_⟩
      rw [decode_of_opRow (hw ▸ hrow), ofILayout, (hword ..).1, (hword ..).2, ← hw]
      exact ⟨iLayout_fields w, rfl⟩

theorem encode_decode (w : Word) : encode (decode w) = w := by
  obtain ⟨_, hname⟩ := exists_name_of_codes (opOf w) (funcOf w)
  exact (hname w rfl fun _ => rfl).1

/-- Settles O19: the instruction decoded encodes to the word, and no other is the one decoded. -/
theorem everyWordIsOneInstruction : Obligations.EveryWordIsOneInstruction :=
  fun w => ⟨rfl, decode w, ⟨encode_decode w, rfl⟩, fun _ h => h.2.symm⟩

/-! ## The opcode table (rule R59) -/

/-- A word's name reads the opcode, and the function code only under opcode zero. -/
theorem mnemonic_decode_congr {a b : Word} (hop : opOf a = opOf b) (hfunc : opOf a = 0#6 → funcOf a = funcOf b) :
    (decode a).mnemonic = (decode b).mnemonic := by
  obtain ⟨_, hname⟩ := exists_name_of_codes (opOf b) (funcOf b)
  exact (hname a hop hfunc).2.trans (hname b rfl fun _ => rfl).2.symm

/-- What each row says of its own match word: the mask is the one for its opcode, the selector is `CLASSIFY`'s and the
name is the decoder's. -/
theorem opcodeRow_fits {r : OpcodeRow} (hr : r ∈ opcodeTable) :
    r.mask = (if opOf r.pattern = 0#6 then 0xFC00003F#32 else 0xFC000000#32) ∧
      classify r.pattern = r.sel ∧ (decode r.pattern).mnemonic = r.mnemonic := by
  have every_row : opcodeTable.all (fun r =>
      r.mask = (if opOf r.pattern = 0#6 then 0xFC00003F#32 else 0xFC000000#32) ∧
        classify r.pattern = r.sel ∧ (decode r.pattern).mnemonic = r.mnemonic) = true := by decide
  exact of_decide_eq_true (List.all_eq_true.mp every_row r hr)

/-- A word that belongs to a row has the codes of the row's match word. -/
theorem codes_eq_of_holds {r : OpcodeRow} (hr : r ∈ opcodeTable) {w : Word} (hw : r.holds w = true) :
    opOf w = opOf r.pattern ∧ (opOf w = 0#6 → funcOf w = funcOf r.pattern) := by
  obtain ⟨hmask, -, -⟩ := opcodeRow_fits hr
  have masked : w &&& r.mask = r.pattern := eq_of_beq hw
  by_cases hop : opOf r.pattern = 0#6
  · rw [hmask, if_pos hop] at masked
    rw [← masked, opOf_and_funcMask, funcOf_and_funcMask]
    exact ⟨rfl, fun _ => rfl⟩
  · rw [hmask, if_neg hop] at masked
    have op_eq : opOf w = opOf r.pattern := by rw [← masked, opOf_and_opMask]
    exact ⟨op_eq, fun hzero => absurd (op_eq ▸ hzero) hop⟩

theorem mnemonic_decode_of_holds {r : OpcodeRow} (hr : r ∈ opcodeTable) {w : Word} (hw : r.holds w = true) :
    (decode w).mnemonic = r.mnemonic := by
  obtain ⟨-, -, hname⟩ := opcodeRow_fits hr
  obtain ⟨hop, hfunc⟩ := codes_eq_of_holds hr hw
  exact (mnemonic_decode_congr hop hfunc).trans hname

theorem classify_of_holds {r : OpcodeRow} (hr : r ∈ opcodeTable) {w : Word} (hw : r.holds w = true) :
    classify w = r.sel := by
  obtain ⟨-, hsel, -⟩ := opcodeRow_fits hr
  obtain ⟨hop, hfunc⟩ := codes_eq_of_holds hr hw
  exact (classify_congr hop hfunc).trans hsel

/-- Settles O21: the decoder's name of the row's match word is the row's, and the word has the same codes. -/
theorem decodedNameIsTheRowsName : Obligations.DecodedNameIsTheRowsName :=
  fun _ _ hr hw => mnemonic_decode_of_holds hr hw

/-- The place in the table that a row's name tells: the binary code at its end, the opcodes counted on after the 64
function codes. -/
def placeOfName (name : String) : Nat :=
  numeral (name.toList.drop (name.length - 6)) + if 'p' ∈ name.toList then 63 else 0

theorem opcodeTable_places : (opcodeTable.map OpcodeRow.mnemonic).map placeOfName = List.range 127 := by decide

/-- No two names are equal, since each tells its row's place. -/
theorem opcodeTable_mnemonics_nodup : (opcodeTable.map OpcodeRow.mnemonic).Nodup := by
  apply List.Nodup.of_map placeOfName
  rw [opcodeTable_places]
  exact List.nodup_range

/-- Rows that a word belongs to have one name, so they are one row. -/
theorem opcodeRow_eq_of_holds {q r : OpcodeRow} (hq : q ∈ opcodeTable) (hr : r ∈ opcodeTable) {w : Word}
    (hqw : q.holds w = true) (hrw : r.holds w = true) : q = r :=
  List.inj_on_of_nodup_map opcodeTable_mnemonics_nodup hq hr
    ((mnemonic_decode_of_holds hq hqw).symm.trans (mnemonic_decode_of_holds hr hrw))

/-- The table begins with the rows of the function codes, in order. -/
theorem row_at_func : ∀ func : BitVec 6,
    ∃ r, opcodeTable[func.toNat]? = some r ∧ r.mask = 0xFC00003F#32 ∧ r.pattern = func.setWidth 32 := by decide

/-- The rows of the opcodes follow in order, opcode zero having none. -/
theorem row_at_op : ∀ op : BitVec 6, op ≠ 0#6 →
    ∃ r, opcodeTable[63 + op.toNat]? = some r ∧ r.mask = 0xFC000000#32 ∧ r.pattern = op.setWidth 32 <<< 26 := by decide

theorem exists_row_holds (w : Word) : ∃ r ∈ opcodeTable, r.holds w = true := by
  by_cases hop : opOf w = 0#6
  · obtain ⟨r, hr, hmask, hpattern⟩ := row_at_func (funcOf w)
    refine ⟨r, List.mem_of_getElem? hr, beq_iff_eq.mpr ?_⟩
    rw [hmask, hpattern, and_funcMask_eq_setWidth_iff]
    exact ⟨hop, rfl⟩
  · obtain ⟨r, hr, hmask, hpattern⟩ := row_at_op (opOf w) hop
    refine ⟨r, List.mem_of_getElem? hr, beq_iff_eq.mpr ?_⟩
    rw [hmask, hpattern, and_opMask_eq_shiftLeft_iff]

/-- Settles O20: the counts row by row; a word's codes give it a row, and its name gives it no other. -/
theorem opcodeTablePartitionsWords : Obligations.OpcodeTablePartitionsWords := by
  unfold Obligations.OpcodeTablePartitionsWords
  refine ⟨rfl, opcodeTable_mnemonics_nodup, by decide, by decide, by decide, by decide, fun w => ?_⟩
  obtain ⟨r, hr, hw⟩ := exists_row_holds w
  exact ⟨r, hr, hw, (classify_of_holds hr hw).symm, fun q hq hqw => opcodeRow_eq_of_holds hq hr hqw hw⟩

/-- Settles O22: the eight words, each through the maps to its fields. -/
theorem sampleWordsDecode : Obligations.SampleWordsDecode :=
  ⟨rfl, rfl, rfl, rfl, rfl, rfl, rfl, rfl⟩

/-! ## Words from bytes (rule R43) -/

theorem wordOfBytes_big_toNat (b0 b1 b2 b3 : Byte) : (wordOfBytes .big b0 b1 b2 b3).toNat =
    b0.toNat * 2 ^ 24 + b1.toNat * 2 ^ 16 + b2.toNat * 2 ^ 8 + b3.toNat := by
  rw [wordOfBytes, toNat_append_eq, toNat_append_eq, toNat_append_eq]
  omega

theorem decodeBytes_of_fewer (order : ByteOrder) {bytes : List Byte} (h : bytes.length < 4) :
    decodeBytes order bytes = .error (.fewerThanFourBytes bytes) := by
  match bytes with
  | [] => rfl
  | [_] => rfl
  | [_, _] => rfl
  | [_, _, _] => rfl
  | _ :: _ :: _ :: _ :: _ => exact absurd h (by simp)

/-- Settles O23: the big-endian value from the bytes' places; the other clauses are the definitions' cases. -/
theorem wordsFromBytes : Obligations.WordsFromBytes :=
  ⟨fun b0 b1 b2 b3 => ⟨wordOfBytes_big_toNat b0 b1 b2 b3, rfl⟩, rfl, fun _ _ _ _ _ _ => rfl,
    fun order _ => decodeBytes_of_fewer order⟩

/-! ## The false variants (95_test_vectors.md section 2.3) -/

/-- Settles O16: each variant fails of the word given, the fifth of a pair of words. -/
theorem falseVariantsRefuted : Obligations.FalseVariantsRefuted := by
  unfold Obligations.FalseVariantsRefuted
  refine ⟨fun h => ?f1, fun h => ?f2, fun h => ?f3, ⟨fun h => ?f4r, fun h => ?f4j⟩, fun h => ?f5, fun h => ?f6, ?f7⟩
  case f1 => exact absurd (h 0x00000000#32 (by decide)) (by decide)
  case f2 => exact absurd (h 0x00000001#32 (by decide) (by decide)) (by decide)
  case f3 => exact absurd (h 0x04000000#32 (by decide)) (by decide)
  case f4r => exact absurd (h 0x04000000#32 (by decide)) (by decide)
  case f4j => exact absurd (h 0x04000000#32 (by decide)) (by decide)
  case f5 => exact absurd (h 0x00000000#32 0x00000020#32 (by decide)) (by decide)
  case f6 => exact absurd (h 0x04000000#32) (by decide)
  case f7 => decide

end Sys2Proof.Machine
end

section
/-! PROOFS. The meanings of the instructions (40_classify.md section 2, 41_dispatch.md section 1): each is one evaluation
of its own word with the selector the classifier gives that word, and the next state it answers, family by family. -/

namespace Sys2Proof.Machine

/-! ## A meaning agrees with the classifier (rules R70, R90) -/

theorem classify_iLayout {op : BitVec 6} (hop : op ≠ 0#6) (hj : ¬(op = 2#6 ∨ op = 3#6)) (rs rt : BitVec 5)
    (immediate : BitVec 16) : classify (iLayout op rs rt immediate) = .i := by
  apply classify_eq_of_outcomeCondition
  rw [outcomeCondition, opOf_iLayout]
  exact ⟨hop, not_or.mp hj⟩

theorem next_drive_of_classify {w : Word} {sel : Sel} (h : classify w = sel) (s : State) :
    (.next (drive w sel s) : Host.Outcome State Fault Refusal) = .next (drive w (classify w) s) := by
  rw [h]

/-- An instruction is one evaluation of its own word: its row's selector is what `CLASSIFY` gives the word. -/
theorem exec_eq_drive_classify (i : Instr) (s : State) :
    exec i s = .next (drive (encode i) (classify (encode i)) s) := by
  cases i
  -- by the function code under opcode zero: in the shift set or not
  iterate 6 exact next_drive_of_classify ((classify_rLayout ..).trans (if_pos (by decide))) s
  iterate 58 exact next_drive_of_classify ((classify_rLayout ..).trans (if_neg (by decide))) s
  -- by the opcode: a jump or any other
  iterate 2 exact next_drive_of_classify ((classify_jLayout _ _ (by decide)).trans (if_pos (by decide))) s
  iterate 61 exact next_drive_of_classify (classify_iLayout (by decide) (by decide) ..) s

/-- Settles O32: the state after one evaluation of the instruction's word, field by field. -/
theorem meaningsRefineClassify : Obligations.MeaningsRefineClassify :=
  exec_eq_drive_classify

/-! ## The next state of each family -/

theorem funcOf_iLayout (op : BitVec 6) (rs rt : BitVec 5) (immediate : BitVec 16) :
    funcOf (iLayout op rs rt immediate) = immediate.setWidth 6 := by
  apply BitVec.eq_of_toNat_eq
  rw [funcOf_toNat, iLayout_toNat, BitVec.toNat_setWidth]
  omega

theorem funcOf_jLayout (op : BitVec 6) (target : BitVec 26) : funcOf (jLayout op target) = target.setWidth 6 := by
  apply BitVec.eq_of_toNat_eq
  rw [funcOf_toNat, jLayout_toNat, BitVec.toNat_setWidth]
  omega

theorem isRFamily_eq_false {w : Word} (h : opOf w ≠ 0#6) : isRFamily w = false :=
  beq_eq_false_iff_ne.mpr h

/-- Under opcode zero the `func` port carries the function code, valid. -/
theorem portsWith_rLayout (sel : Sel) (rs rt rd shamt : BitVec 5) (func : BitVec 6) :
    portsWith sel (rLayout 0#6 rs rt rd shamt func) =
      { sel := sel, kind := kindOf sel, desc := desc sel, opcode := 0#6, func := func, funcValid := true } := by
  rw [portsWith, (isRFamily_iff _).mpr (opOf_rLayout ..), opOf_rLayout, funcOf_rLayout]

/-- Under another opcode it carries the low six bits of the immediate, not valid. -/
theorem portsWith_iLayout {op : BitVec 6} (hop : op ≠ 0#6) (rs rt : BitVec 5) (immediate : BitVec 16) :
    portsWith .i (iLayout op rs rt immediate) =
      { sel := .i, kind := .i, desc := descI, opcode := op, func := immediate.setWidth 6, funcValid := false } := by
  rw [portsWith, isRFamily_eq_false (by rwa [opOf_iLayout]), opOf_iLayout, funcOf_iLayout, kindOf, desc]

/-- The same of the target. -/
theorem portsWith_jLayout {op : BitVec 6} (hop : op ≠ 0#6) (target : BitVec 26) :
    portsWith .j (jLayout op target) =
      { sel := .j, kind := .j, desc := descJ, opcode := op, func := target.setWidth 6, funcValid := false } := by
  rw [portsWith, isRFamily_eq_false (by rwa [opOf_jLayout]), opOf_jLayout, funcOf_jLayout, kindOf, desc]

/-- An instruction that evaluates a word completes, with these ports and nothing else changed. -/
theorem completes_with_ports {i : Instr} {w : Word} {sel : Sel} {ports : Outputs} {s : State}
    (hexec : exec i s = .next (drive w sel s)) (hports : portsWith sel w = ports) :
    ∃ out : Outputs, out = ports ∧ exec i s = .next
      { word := w, out := out, pending := s.pending, results := s.results ++ [.evaluated w out] } := by
  subst hports
  exact ⟨_, rfl, hexec⟩

/-- Settles O28: each row's meaning is its word's evaluation with selector `SHIFT`. -/
theorem shiftWordsComplete : Obligations.ShiftWordsComplete := by
  unfold Obligations.ShiftWordsComplete
  intro row hrow rs rt rd shamt s
  refine completes_with_ports ?_ (portsWith_rLayout .shift rs rt rd shamt row.1)
  fin_cases hrow <;> rfl

/-- Settles O29: each row's meaning is its word's evaluation with selector `R`. -/
theorem rWordsComplete : Obligations.RWordsComplete := by
  unfold Obligations.RWordsComplete
  intro row hrow rs rt rd shamt s
  refine completes_with_ports ?_ (portsWith_rLayout .r rs rt rd shamt row.1)
  fin_cases hrow <;> rfl

/-- Settles O30: each row's meaning is its word's evaluation with selector `J`, under an opcode other than zero. -/
theorem jWordsComplete : Obligations.JWordsComplete := by
  unfold Obligations.JWordsComplete
  intro row hrow target s
  refine completes_with_ports ?meaning (portsWith_jLayout ?opcode target)
  case meaning => fin_cases hrow <;> rfl
  case opcode => fin_cases hrow <;> decide

/-- Settles O31: each row's meaning is its word's evaluation with selector `I`, under an opcode other than zero. -/
theorem iWordsComplete : Obligations.IWordsComplete := by
  unfold Obligations.IWordsComplete
  intro row hrow rs rt immediate s
  refine completes_with_ports ?meaning (portsWith_iLayout ?opcode rs rt immediate)
  case meaning => fin_cases hrow <;> rfl
  case opcode => fin_cases hrow <;> decide

end Sys2Proof.Machine
end

section
/-! PROOFS. How a call is served (42_host_adapters.md, 60_exceptions.md section 3): what a call gives, and what serving it
makes of the state, which is all that a step does. -/

namespace Sys2Proof.Machine

/-! ## What a call gives (rules R124, R146) -/

theorem evaluateIfValid_ne_answer (answer : Except ErrorCondition Word) (r : Result) :
    evaluateIfValid answer ≠ .answer r := by
  cases answer <;> simp [evaluateIfValid]

theorem answerWith_eq_answer {α : Type} {result : α → Result} {answer : Except ErrorCondition α} {r : Result}
    (h : answerWith result answer = .answer r) : ∃ a, result a = r := by
  cases answer with
  | ok a => exact ⟨a, Service.answer.inj h⟩
  | error e => cases h

theorem answerWith_ne_evaluate {α : Type} (result : α → Result) (answer : Except ErrorCondition α) (w : Word) :
    answerWith result answer ≠ .evaluate w := by
  cases answer <;> simp [answerWith]

/-- What is answered beside the block is a value: no evaluation and no condition. -/
theorem answer_is_value {c : Call} {r : Result} (h : serve c = .answer r) :
    (∀ w out, r ≠ .evaluated w out) ∧ ∀ e, r ≠ .raised e := by
  cases c with
  | present | presentBytes => cases h
  | classifyText | classifyInteger => exact absurd h (evaluateIfValid_ne_answer _ r)
  | parseWord | wordOfNat | render =>
    obtain ⟨a, rfl⟩ := answerWith_eq_answer h
    simp
  | formatWord | parseReg | field | fields | operands =>
    obtain rfl := Service.answer.inj h
    simp

theorem serve_of_resultOf_raised {c : Call} {e : ErrorCondition} (h : resultOf c = .raised e) :
    serve c = .raising e := by
  unfold resultOf at h
  split at h
  · cases h
  · exact absurd h ((answer_is_value ‹_›).2 e)
  · rwa [← Result.raised.inj h]

theorem serve_of_resultOf_evaluated {c : Call} {w : Word} {out : Outputs} (h : resultOf c = .evaluated w out) :
    serve c = .evaluate w ∧ portsOf w = out := by
  unfold resultOf at h
  split at h
  · obtain ⟨rfl, hout⟩ := Result.evaluated.inj h
    exact ⟨‹_›, hout⟩
  · exact absurd h ((answer_is_value ‹_›).1 w out)
  · cases h

/-- The result of a call never gives a word another word's outputs (rule R20). -/
theorem resultOf_faithful (c : Call) : (resultOf c).Faithful := by
  match h : resultOf c with
  | .evaluated w out => exact (serve_of_resultOf_evaluated h).2.symm
  | .word _ | .text _ | .registerCode _ | .fieldValues _ | .raised _ => trivial

/-- A value of an adapter is the call's result exactly when the adapter gives it. -/
theorem resultOf_eq_iff_of_answerWith {α : Type} {c : Call} {result : α → Result} {answer : Except ErrorCondition α}
    (h : serve c = answerWith result answer) (inj : Function.Injective result) {a : α}
    (not_raised : ∀ e, Result.raised e ≠ result a) : resultOf c = result a ↔ answer = .ok a := by
  cases answer <;> simp [resultOf, h, answerWith, inj.eq_iff, not_raised]

/-! ## Serving a call -/

/-- The state once a call is served: after its evaluation, its answer or its condition. -/
def State.served (s : State) (c : Call) : State :=
  match serve c with
  | .evaluate w => drive w (classify w) s
  | .answer r => deliver r s
  | .raising e => raise e s

theorem served_of_evaluate {c : Call} {w : Word} (h : serve c = .evaluate w) (s : State) :
    s.served c = drive w (classify w) s := by
  simp only [State.served, h]

theorem served_of_raising {c : Call} {e : ErrorCondition} (h : serve c = .raising e) (s : State) :
    s.served c = raise e s := by
  simp only [State.served, h]

/-- A call that puts no word on the block only has its result delivered. -/
theorem served_of_not_evaluate {c : Call} (h : ∀ w, serve c ≠ .evaluate w) (s : State) :
    s.served c = deliver (resultOf c) s := by
  unfold State.served resultOf
  match hc : serve c with
  | .evaluate w => exact absurd hc (h w)
  | .answer r => rfl
  | .raising e => rfl

@[simp] theorem served_pending (s : State) (c : Call) : (s.served c).pending = s.pending := by
  unfold State.served
  cases serve c <;> rfl

@[simp] theorem served_results (s : State) (c : Call) : (s.served c).results = s.results ++ [resultOf c] := by
  unfold State.served resultOf
  cases serve c <;> rfl

/-- Serving a call reads no port and no queue: the ports after it depend on the ports before it alone. -/
theorem served_ports_congr {s s' : State} (hword : s.word = s'.word) (hout : s.out = s'.out) (c : Call) :
    (s.served c).word = (s'.served c).word ∧ (s.served c).out = (s'.served c).out := by
  unfold State.served
  cases serve c <;> simp [hword, hout]

theorem served_combinational {s : State} (h : s.Combinational) (c : Call) : (s.served c).Combinational := by
  unfold State.served
  cases serve c with
  | evaluate w => rfl
  | answer r => exact h
  | raising e => exact h

theorem served_sound {s : State} (h : s.Sound) (c : Call) : (s.served c).Sound := by
  obtain ⟨combinational, faithful⟩ := h
  refine ⟨served_combinational combinational c, ?_⟩
  rw [served_results, List.forall_mem_append, List.forall_mem_singleton]
  exact ⟨faithful, resultOf_faithful c⟩

end Sys2Proof.Machine
end

section
/-! PROOFS. Steps and runs (41_dispatch.md section 1, 60_exceptions.md section 3, 70_reset_and_hazards.md section 4): a step
serves the first call, and what follows for one step, for runs of any length and for two states. -/

namespace Sys2Proof.Machine

/-! ## One step (rules R90, R121, R127) -/

/-- A decoded word is evaluated with its own selector. -/
theorem exec_decode (w : Word) (s : State) : exec (decode w) s = .next (drive w (classify w) s) := by
  rw [exec_eq_drive_classify, encode_decode]

/-- A step serves the first call, and it neither faults nor refuses. -/
theorem step_of_pending {s : State} {c : Call} {rest : List Call} (h : s.pending = c :: rest) :
    step s = .next ((s.withPending rest).served c) := by
  unfold State.served
  match hc : serve c with
  | .evaluate w => rw [step_evaluate h hc, exec_decode]
  | .answer r => exact step_answer h hc
  | .raising e => exact step_raising h hc

/-- A call that puts a word on the block, from every state. -/
theorem step_of_evaluate {s : State} {c : Call} {rest : List Call} {w : Word} (h : s.pending = c :: rest)
    (hc : serve c = .evaluate w) : step s = .next (drive w (classify w) (s.withPending rest)) := by
  rw [step_of_pending h, served_of_evaluate hc]

/-- Every state has a next one, which is as sound. -/
theorem exists_step (s : State) : ∃ t, step s = .next t ∧ (s.Sound → t.Sound) := by
  match h : s.pending with
  | [] => exact ⟨s, step_idle h, id⟩
  | c :: rest => exact ⟨_, step_of_pending h, fun sound => served_sound (s := s.withPending rest) sound c⟩

/-- Settles O37: serving a call keeps the ports the input's function and records no false evaluation. -/
theorem stepKeepsPortsSound : Obligations.StepKeepsPortsSound := by
  unfold Obligations.StepKeepsPortsSound
  intro s t sound hstep
  obtain ⟨t', ht', keeps⟩ := exists_step s
  obtain rfl : t' = t := Host.Outcome.next.inj (ht'.symm.trans hstep)
  exact keeps sound

/-- Settles O38: the reset state's outputs are defined as the word's, and nothing is recorded. -/
theorem resetIsSound : Obligations.ResetIsSound :=
  ⟨rfl, fun _ h => absurd h List.not_mem_nil⟩

/-- Settles O45: the step's case for an empty queue. -/
theorem idleStepChangesNothing : Obligations.IdleStepChangesNothing :=
  fun _ => step_idle

/-- Settles O33: a presented word is served by evaluating it. -/
theorem stepRunsDecodedInstruction : Obligations.StepRunsDecodedInstruction :=
  fun _ _ _ h => step_evaluate h rfl

/-- Settles O34: the number fits, and the word placed is the first call. -/
theorem fetchedWordRunsNext : Obligations.FetchedWordRunsNext :=
  fun s n hn => ⟨if_pos ⟨le_rfl, hn⟩, step_evaluate (withFetchWord_pending s 32 n) rfl⟩

/-- Settles O35: the ports after one evaluation, each by its own lemma. -/
theorem portsFollowPresentedWord : Obligations.PortsFollowPresentedWord :=
  fun _ w _ h => ⟨_, step_of_evaluate h rfl, rfl, rfl, rfl, rfl, rfl, rfl, isRFamily_iff w, rfl, rfl⟩

/-- Settles O36: an idle step, or the first call served. -/
theorem everyStepServesOneCall : Obligations.EveryStepServesOneCall := by
  unfold Obligations.EveryStepServesOneCall
  intro s
  match h : s.pending with
  | [] => exact ⟨s, step_idle h, h, (List.append_nil _).symm⟩
  | c :: rest => exact ⟨_, step_of_pending h, served_pending _ c, served_results _ c⟩

/-! ## Runs (rules R127, R146) -/

/-- The induction of every claim about runs: a run of any length answers a next state, which is as sound. -/
theorem exists_run (n : Nat) (s : State) : ∃ t : State, Host.Core.run core n s = .next t ∧ (s.Sound → t.Sound) := by
  induction n generalizing s with
  | zero => exact ⟨s, rfl, id⟩
  | succ n ih =>
    obtain ⟨u, hstep, step_keeps⟩ := exists_step s
    obtain ⟨t, hrun, run_keeps⟩ := ih u
    exact ⟨t, (core_run_succ hstep n).trans hrun, run_keeps ∘ step_keeps⟩

/-- Settles O40: by induction on the number of steps, each of which answers a next state and keeps the invariant. -/
theorem runsNeverStop : Obligations.RunsNeverStop := by
  unfold Obligations.RunsNeverStop
  intro s n
  obtain ⟨t, hrun, keeps⟩ := exists_run n s
  refine ⟨⟨t, hrun⟩, fun t' sound hrun' => ?_⟩
  obtain rfl : t = t' := Host.Outcome.next.inj (hrun.symm.trans hrun')
  exact keeps sound

theorem run_serves_pending (calls : List Call) (s : State) (h : s.pending = calls) :
    ∃ t : State, Host.Core.run core calls.length s = .next t ∧ t.pending = [] ∧
      t.results = s.results ++ calls.map resultOf := by
  induction calls generalizing s with
  | nil => exact ⟨s, rfl, h, (List.append_nil _).symm⟩
  | cons c rest ih =>
    obtain ⟨t, hrun, hpending, hresults⟩ := ih ((s.withPending rest).served c) (served_pending _ c)
    refine ⟨t, (core_run_succ (step_of_pending h) rest.length).trans hrun, hpending, ?_⟩
    rw [hresults, served_results, withPending_results, List.map_cons, List.append_assoc, List.singleton_append]

/-- Settles O39: by induction on the calls, the first served and the others after it. -/
theorem runAnswersEveryCallInOrder : Obligations.RunAnswersEveryCallInOrder :=
  fun s => run_serves_pending s.pending s rfl

/-! ## What a call cannot observe (rules R20, R47, R125, R140) -/

/-- Settles O42: the result is the call's own, and an evaluation sets every port. -/
theorem resultIndependentOfHistory : Obligations.ResultIndependentOfHistory := by
  unfold Obligations.ResultIndependentOfHistory
  intro s s' c rest rest' h h'
  refine ⟨_, _, step_of_pending h, step_of_pending h', by simp, by simp, fun w out hresult => ?_⟩
  obtain ⟨hc, rfl⟩ := serve_of_resultOf_evaluated hresult
  rw [served_of_evaluate hc, served_of_evaluate hc]
  exact ⟨rfl, rfl, rfl, rfl⟩

/-- Settles O46: the word is the first call of both states, and its evaluation sets every port and the result. -/
theorem firstEvaluationLikeAnyOther : Obligations.FirstEvaluationLikeAnyOther := by
  unfold Obligations.FirstEvaluationLikeAnyOther
  intro s n
  refine ⟨_, _, step_of_evaluate (withFetchWord_pending _ 32 n) rfl,
    step_of_evaluate (withFetchWord_pending s 32 n) rfl, rfl, rfl, ?_⟩
  rw [drive_results, drive_results, List.getLast?_concat, List.getLast?_concat]

/-- Settles O43: the failing call leaves the ports as they were, and the next call is served from the same ports. -/
theorem failedCallLeavesNothingBehind : Obligations.FailedCallLeavesNothingBehind := by
  unfold Obligations.FailedCallLeavesNothingBehind
  intro s c d rest e h hresult
  have failing : step s = .next (raise e (s.withPending (d :: rest))) :=
    step_raising h (serve_of_resultOf_raised hresult)
  have next_call : step (raise e (s.withPending (d :: rest))) =
      .next (((raise e (s.withPending (d :: rest))).withPending rest).served d) := step_of_pending rfl
  have without_failure : step (s.withPending (d :: rest)) =
      .next (((s.withPending (d :: rest)).withPending rest).served d) := step_of_pending rfl
  obtain ⟨same_word, same_out⟩ := served_ports_congr
    (s := (raise e (s.withPending (d :: rest))).withPending rest)
    (s' := (s.withPending (d :: rest)).withPending rest) rfl rfl d
  exact ⟨failing, _, _, (core_run_succ failing 1).trans (core_run_succ next_call 0), without_failure, same_word, same_out,
    by simp, by simp, by simp⟩

end Sys2Proof.Machine
end

section
/-! PROOFS. Calls over the host adapters (42_host_adapters.md, 20_memory.md section 2): a word handed over in another form
reaches the block, and an adapter's or a helper's call does not. -/

namespace Sys2Proof.Machine

/-! ## Other forms of a word, adapters and helpers (rules R43, R103, R105, R110) -/

/-- A call that hands over a word in another form: the word is evaluated, or the failed conversion is raised with the
ports as they were (rule R103). -/
theorem step_of_evaluateIfValid {s : State} {c : Call} {rest : List Call} {answer : Except ErrorCondition Word}
    (h : s.pending = c :: rest) (hc : serve c = evaluateIfValid answer) : ∃ t, step s = .next t ∧ t.pending = rest ∧
      (∀ w, answer = .ok w → t.word = w ∧ t.out = portsOf w ∧ t.results = s.results ++ [.evaluated w (portsOf w)]) ∧
      ∀ e, answer = .error e → t.word = s.word ∧ t.out = s.out ∧ t.results = s.results ++ [.raised e] := by
  cases answer with
  | ok w =>
    refine ⟨_, step_of_evaluate h hc, rfl, fun v hv => ?_, fun e he => ?_⟩
    · obtain rfl := Except.ok.inj hv
      exact ⟨rfl, rfl, rfl⟩
    · cases he
  | error e =>
    refine ⟨_, step_raising h hc, rfl, fun w hw => ?_, fun f hf => ?_⟩
    · cases hw
    · obtain rfl := Except.error.inj hf
      exact ⟨rfl, rfl, rfl⟩

theorem classifyText_eq_ok {t : Text} {d : FormatDescriptor} (h : classifyText t = .ok d) :
    ∃ w, parseWord t = .ok w ∧ dispatch w = d := by
  unfold classifyText at h
  split at h
  · exact ⟨_, ‹_›, Except.ok.inj h⟩
  · cases h

theorem classifyText_eq_error {t : Text} {e : ErrorCondition} (h : classifyText t = .error e) :
    parseWord t = .error e := by
  unfold classifyText at h
  split at h
  · cases h
  · rwa [← Except.error.inj h]

/-- Settles O41: text and integers by their adapter's answer, bytes as the word they make. -/
theorem otherFormsOfAWordReachTheBlock : Obligations.OtherFormsOfAWordReachTheBlock := by
  unfold Obligations.OtherFormsOfAWordReachTheBlock
  refine ⟨fun s text rest h => ?text, fun s n rest h => ?integer, fun s order b0 b1 b2 b3 rest h => ?bytes⟩
  case text =>
    obtain ⟨t, hstep, hpending, accepted, raised⟩ := step_of_evaluateIfValid h rfl
    refine ⟨t, hstep, hpending, fun d hd => ?_, fun e he => raised e (classifyText_eq_error he)⟩
    obtain ⟨w, hw, rfl⟩ := classifyText_eq_ok hd
    obtain ⟨rfl, hout, hresults⟩ := accepted w hw
    rw [hresults, hout]
    exact ⟨hw, rfl, rfl, rfl⟩
  case integer =>
    obtain ⟨t, hstep, hpending, accepted, raised⟩ := step_of_evaluateIfValid h rfl
    refine ⟨t, hstep, hpending, fun h0 h1 => ?_, fun outside => raised _ (wordOfNat_of_not outside)⟩
    obtain ⟨-, fits, -⟩ := wordOfNatOutcomes
    obtain ⟨w, hw, value⟩ := fits n h0 h1
    obtain ⟨rfl, hout, hresults⟩ := accepted w hw
    rw [hresults, hout]
    exact ⟨value, rfl, rfl⟩
  case bytes => exact ⟨_, step_of_evaluate h rfl, rfl, rfl, rfl, rfl⟩

/-- A call that puts no word on the block changes the queue and the record alone. -/
theorem step_beside_block {s : State} {c : Call} {rest : List Call} (h : s.pending = c :: rest)
    (hc : ∀ w, serve c ≠ .evaluate w) :
    step s = .next { s with pending := rest, results := s.results ++ [resultOf c] } := by
  rw [step_of_pending h, served_of_not_evaluate hc]
  rfl

/-- The eight calls of the adapters and helpers put no word on the block. -/
theorem serve_ne_evaluate {text : Text} {w : Word} {n : Int} {name : FieldName} {c : Call}
    (hc : c ∈ [.parseWord text, .formatWord w, .wordOfNat n, .render n, .parseReg text, .field w name, .fields w,
      .operands w]) (v : Word) : serve c ≠ .evaluate v := by
  simp only [List.mem_cons, List.not_mem_nil, or_false] at hc
  rcases hc with rfl | rfl | rfl | rfl | rfl | rfl | rfl | rfl
  case inl | inr.inr.inl | inr.inr.inr.inl => exact answerWith_ne_evaluate _ _ v
  all_goals exact Service.noConfusion

/-- Settles O44: no such call reaches the block, and those over an adapter give its value or raise its condition. -/
theorem adaptersLeavePortsUnchanged : Obligations.AdaptersLeavePortsUnchanged := by
  unfold Obligations.AdaptersLeavePortsUnchanged
  have word_inj : Function.Injective Result.word := fun _ _ => Result.word.inj
  have text_inj : Function.Injective Result.text := fun _ _ => Result.text.inj
  refine ⟨fun s rest text w n name c hc h => step_beside_block h (serve_ne_evaluate hc), fun text => ⟨?_, ?_⟩,
    fun _ => rfl, fun n => ⟨?_, ?_⟩, fun n => ⟨?_, ?_⟩, fun _ => rfl, fun _ _ => rfl, fun _ => rfl, fun _ => rfl⟩
  · exact fun w => resultOf_eq_iff_of_answerWith rfl word_inj (by simp)
  · exact fun e => resultOf_raised_iff_of_answerWith rfl e (by simp)
  · exact fun w => resultOf_eq_iff_of_answerWith rfl word_inj (by simp)
  · exact fun e => resultOf_raised_iff_of_answerWith rfl e (by simp)
  · exact fun x => resultOf_eq_iff_of_answerWith rfl text_inj (by simp)
  · exact fun e => resultOf_raised_iff_of_answerWith rfl e (by simp)

end Sys2Proof.Machine
end
